-- ==== Sys2Proof/Word.lean ====
section
/-! DEFINITION. Bytes, clock values and tables of fixed size. -/

namespace Sys2Proof

/-- One byte of a backbone or shelf frame. -/
abbrev Byte := BitVec 8

/-- A station clock value: a 32-bit count of milliseconds (00_scope.md, Station Clock and Deadlines). -/
abbrev Clock := BitVec 32

/-- `n` records of one kind, indexed by `Fin n`. It is a list with its length beside it, so that the
kernel evaluates `map` and `set` on it. -/
structure Table (α : Type) (n : Nat) where
  toList : List α
  size_eq : toList.length = n
  deriving DecidableEq, Repr

namespace Table

variable {α β γ : Type} {n : Nat}

/-- Every record the same. -/
def const (n : Nat) (x : α) : Table α n := ⟨List.replicate n x, List.length_replicate⟩

def get (t : Table α n) (i : Fin n) : α := t.toList[i.val]'(t.size_eq.symm ▸ i.isLt)

def set (t : Table α n) (i : Fin n) (x : α) : Table α n :=
  ⟨t.toList.set i.val x, (List.length_set).trans t.size_eq⟩

def modify (t : Table α n) (i : Fin n) (f : α → α) : Table α n := t.set i (f (t.get i))

def map (f : α → β) (t : Table α n) : Table β n :=
  ⟨t.toList.map f, (List.length_map f).trans t.size_eq⟩

/-- Record by record: `f` of the record of `t` and the record of `u` at the same index. -/
def zipWith (f : α → β → γ) (t : Table α n) (u : Table β n) : Table γ n :=
  ⟨List.zipWith f t.toList u.toList, by
    rw [List.length_zipWith, t.size_eq, u.size_eq, Nat.min_self]⟩

/-- The table whose record at `i` is `f i`. -/
def build (f : Fin n → α) : Table α n :=
  ⟨(List.finRange n).map f, (List.length_map f).trans List.length_finRange⟩

/-- How many records satisfy `p`. -/
def count (p : α → Bool) (t : Table α n) : Nat := t.toList.countP p

end Table

end Sys2Proof
end

