-- ==== Sys2Proof/Syntax.lean ====
section
/-! DEFINITION. The commands of the Wajbor 7420: one constructor per row of spec/opcode_table.json.
No row has bits, so a command's operands are what the spec says the event carries. -/

namespace Sys2Proof

/-- A shelf bus segment (Table 8-6: 0 A, 1 B). -/
inductive Segment where
  | a
  | b
  deriving DecidableEq, Repr

/-- The steps of the part. A request row is a MANAGE frame delivered to the Management Engine
(R138, R154); `fields` are the payload bytes after the request code, whatever their number, since the
engine itself judges the length (R158). `tag` is the frame's tag. `broadcast` says that the frame was
addressed to all stations, for the four requests that are accepted so (R157). -/
inductive Instr where
  /-- Power-on or a low pulse on RST#. -/
  | coldStart
  | identify (tag : Byte) (fields : List Byte)
  | readStatus (tag : Byte) (fields : List Byte)
  | writeStation (tag : Byte) (fields : List Byte)
  | noticeOutput (broadcast : Bool) (tag : Byte) (fields : List Byte)
  | writeCapture (tag : Byte) (fields : List Byte)
  | writeMask (tag : Byte) (fields : List Byte)
  | writeCalibration (tag : Byte) (fields : List Byte)
  | loadSweepList (tag : Byte) (fields : List Byte)
  | commit (tag : Byte) (fields : List Byte)
  | discard (tag : Byte) (fields : List Byte)
  | writeLane (tag : Byte) (fields : List Byte)
  | readLane (tag : Byte) (fields : List Byte)
  | zeroLane (tag : Byte) (fields : List Byte)
  | acknowledge (tag : Byte) (fields : List Byte)
  | writeGroup (broadcast : Bool) (tag : Byte) (fields : List Byte)
  | readNode (tag : Byte) (fields : List Byte)
  | releaseNode (tag : Byte) (fields : List Byte)
  | relay (tag : Byte) (fields : List Byte)
  | aisleHold (broadcast : Bool) (tag : Byte) (fields : List Byte)
  | aisleRelease (broadcast : Bool) (tag : Byte) (fields : List Byte)
  | restart (tag : Byte) (fields : List Byte)
  /-- A unicast MANAGE whose whole payload is empty or opens with a code of no request. -/
  | unknownRequest (tag : Byte) (payload : List Byte)
  /-- A broadcast MANAGE whose whole payload opens with no code accepted for broadcast. -/
  | broadcastDiscarded (tag : Byte) (payload : List Byte)
  | resolutionCompletes
  /-- The bytes of the reception that ends at BU. -/
  | buFrameReceived (bytes : List Byte)
  /-- The bytes of the reception that ends at BD. -/
  | bdFrameReceived (bytes : List Byte)
  | bdTransmit
  | upstreamChoice
  | zeroingDeadlineReached (lane : Fin 128)
  | replenishDeadlineReached (lane : Fin 128)
  | holdDeadlineReached
  | noticeSpacingElapsed
  | beaconPhaseToggle (beacon : Fin 4)
  /-- The AKEY input comes to the level low (the key pressed) or high. -/
  | akeyLevelChange (low : Bool)
  | debounceExpiry
  | holdTimerExpiry
  | sweepTimerExpiry (segment : Segment)
  | shelfTransmissionEnd (segment : Segment)
  | replyWindowExpiry (segment : Segment)
  /-- The bytes of the poll-phase reply. -/
  | readingReceived (segment : Segment) (bytes : List Byte)
  /-- The bytes of the relay-phase reply. -/
  | relayAnswerReceived (segment : Segment) (bytes : List Byte)
  | shelfFrameDiscarded (segment : Segment)
  | shelfReceptionBegins (segment : Segment)
  deriving DecidableEq, Repr

/-- The request codes of Table 9-1. -/
inductive RequestCode where
  | identify | readStatus | writeStation | noticeOutput
  | writeCapture | writeMask | writeCalibration | loadSweepList | commit | discard
  | writeLane | readLane | zeroLane | acknowledge | writeGroup
  | readNode | releaseNode | relay
  | aisleHold | aisleRelease | restart
  deriving DecidableEq, Repr

end Sys2Proof
end

