-- ==== Sys2Proof/Machine/Bytes.lean ====
section
/-! DEFINITION. Byte order, bit order and the two frame checks (8.8: most significant byte first,
signed fields in two's complement; R137 and 8.8.2: the CRCs). -/

namespace Sys2Proof.Machine

def byteOf (n : Nat) : Byte := BitVec.ofNat 8 n

/-- Two bytes, most significant first. -/
def be2 (n : Nat) : List Byte := [byteOf (n / 2 ^ 8), byteOf n]

def be3 (n : Nat) : List Byte := [byteOf (n / 2 ^ 16), byteOf (n / 2 ^ 8), byteOf n]

def be4 (n : Nat) : List Byte :=
  [byteOf (n / 2 ^ 24), byteOf (n / 2 ^ 16), byteOf (n / 2 ^ 8), byteOf n]

/-- Four bytes of a signed value. -/
def beInt4 (i : Int) : List Byte := be4 (BitVec.ofInt 32 i).toNat

/-- The number that bytes spell, most significant first. -/
def natOf (bs : List Byte) : Nat := bs.foldl (fun n b => n * 2 ^ 8 + b.toNat) 0

/-- Byte `i` of a payload as a number. -/
def byteAt (p : List Byte) (i : Nat) : Nat := (p.getD i 0).toNat

/-- The unsigned field of `len` bytes at byte `i`. -/
def fieldAt (p : List Byte) (i len : Nat) : Nat := natOf ((p.drop i).take len)

/-- The signed field of three bytes at byte `i`. -/
def int24At (p : List Byte) (i : Nat) : Int := (BitVec.ofNat 24 (fieldAt p i 3)).toInt

/-- A yes/no byte (Table 8-6: 0 is no, any other value yes). -/
def yesAt (p : List Byte) (i : Nat) : Bool := byteAt p i != 0

/-- Flags packed with the first in bit 0. -/
def packBits : List Bool → Nat
  | [] => 0
  | b :: bs => b.toNat + 2 * packBits bs

/-- A yes/no byte as it is sent: 00h for no and 01h for yes. Table 8-6 says that any other value than 0 is
yes and does not say which of them is sent (DESIGN CHOICE, log 29, unsafe). -/
def yesByte (b : Bool) : Byte := byteOf b.toNat

def crc16Bit (c : BitVec 16) : BitVec 16 := if c.msb then c <<< 1 ^^^ 0x1021 else c <<< 1

def crc16Byte (c : BitVec 16) (b : Byte) : BitVec 16 :=
  Nat.repeat crc16Bit 8 (c ^^^ b.setWidth 16 <<< 8)

/-- The CRC-16 of a backbone frame: polynomial 1021h, initial value FFFFh (R137). -/
def crc16 (bs : List Byte) : BitVec 16 := bs.foldl crc16Byte 0xFFFF

def crc8Bit (c : Byte) : Byte := if c.msb then c <<< 1 ^^^ 0x07 else c <<< 1

/-- The CRC-8 of a shelf frame: polynomial 07h, initial value 00h (8.8.2). -/
def crc8 (bs : List Byte) : Byte := bs.foldl (fun c b => Nat.repeat crc8Bit 8 (c ^^^ b)) 0

end Sys2Proof.Machine
end

