-- ==== Sys2Proof/Config.lean ====
section
/-! DEFINITION. What the manual fixes for every 7420: capacities (00_scope.md, Table 1) and the fixed
times of the chapters. The manual leaves no value of an instruction open, so there is no free value. -/

namespace Sys2Proof.Config

/-- Entries of the notice queue (R88). -/
def noticeQueueSize : Nat := 32
/-- Frames of each forward FIFO (R141). -/
def forwardFifoSize : Nat := 8
/-- Requests of the intake FIFO (R154). -/
def intakeSize : Nat := 4
/-- Relays of one segment's queue (R115). -/
def relayQueueSize : Nat := 8
/-- Cells of one lane (R27). -/
def laneCells : Nat := 4
/-- The highest confirmed count (R46). -/
def maxCount : Nat := 4095
/-- Fault and drop counts stay here (R137, R141). -/
def countCeiling : Nat := 65535
/-- Unfit run, miss run and score stay within this (R53, R126, R125). -/
def runCeiling : Nat := 255
/-- Good probes that show a clean link (R129). -/
def probeRunLength : Nat := 64
/-- Device code of IDENTIFY (R163). -/
def deviceCode : Nat := 0x1CFC
/-- Length of a zeroing, ms (R13). -/
def zeroingTime : Nat := 30000
/-- Debounce of AKEY, ms (R97). -/
def debounceTime : Nat := 20
/-- Hold timer of the aisle key, ms (R98). -/
def holdTime : Nat := 4000
/-- One phase of a flashing beacon, ms (R96). -/
def beaconPhase : Nat := 500
/-- A converted value within plus or minus this stays VALID (R32). -/
def maxGrams : Int := 2000000
/-- A tare lies between 0 and this (Table 1-1, R14). -/
def maxTare : Nat := 1000000
/-- A backbone reception that reaches this many bytes is rejected (R136). -/
def backboneCut : Nat := 66
/-- A shelf reception is judged on its first bytes up to this many (R109). -/
def shelfCut : Nat := 32
/-- Longest payload of a backbone frame (R137). -/
def maxPayload : Nat := 56

end Sys2Proof.Config
end

