-- ==== Sys2Proof/Machine/State.lean ====
section
/-! DEFINITION. Everything the manual gives the concentrator to hold, as plain data, block by block
(00_scope.md, Table 2), and its cold start values. -/

namespace Sys2Proof.Machine

/-- Stock bands (4.1, Table 8-6). -/
inductive Band where
  | empty | critical | low | stocked | unknown
  deriving DecidableEq, Repr

/-- Lane states (1.3). -/
inductive LaneState where
  | unbound | acquiring | steady | moving | suspect | blind
  deriving DecidableEq, Repr

/-- Node states (7.1). -/
inductive NodeState where
  | active | doubtful | cutOff | absent
  deriving DecidableEq, Repr

/-- Status of a cell, as reported and as stored (R32). -/
inductive CellStatus where
  | valid | overload | fault
  deriving DecidableEq, Repr

/-- Outcome of the last zeroing; absent is `none` (Table 1-2). -/
inductive ZeroResult where
  | done | clamped | timeout | cancelled
  deriving DecidableEq, Repr

/-- Outcome of an ended relay (Table 6-3). -/
inductive RelayOutcome where
  | delivered | refused | unanswered | noNode
  deriving DecidableEq, Repr

/-- How a node leaves CUT_OFF (R128). -/
inductive RecoveryMode where
  | auto | release
  deriving DecidableEq, Repr

/-- Where a raise sends the alert (Table 5-1). -/
inductive Route where
  | notice | beacon | both
  deriving DecidableEq, Repr

/-- Order of the notice queue (R90). -/
inductive QueueOrder where
  | priority | arrival
  deriving DecidableEq, Repr

/-- Notice output (R94). -/
inductive NoticeOutput where
  | on | held
  deriving DecidableEq, Repr

/-- Result codes (Table 9-2). -/
inductive Result where
  | done | adjusted | badLength | badValue | noSuch | laneUnbound | laneBlind | queueFull
  deriving DecidableEq, Repr

/-! ### Lanes (chapter 1) -/

/-- A cell of the active image: slot and cell index (Table 1-2). -/
structure CellRef where
  slot : Fin 64
  cell : Fin 4
  deriving DecidableEq, Repr

/-- A latest cell value: grams and stored status (R33). -/
structure CellValue where
  grams : Int
  status : CellStatus
  deriving DecidableEq, Repr

/-- One cell of a lane's list, its membership of the fresh set, and its latest value (R33). -/
structure LaneCell where
  ref : CellRef
  fresh : Bool
  value : Option CellValue
  deriving DecidableEq, Repr

/-- Lane configuration (Table 1-1). -/
structure LaneConfig where
  enabled : Bool
  product : BitVec 32
  unitWeight : Nat
  tare : Nat
  capacity : Nat
  lowMark : Nat
  criticalMark : Nat
  hysteresis : Nat
  settleCount : Nat
  settleBand : Nat
  tolFixed : Nat
  tolUnit : Nat
  unfitLimit : Nat
  replenish : Nat
  group : Fin 16
  reportCounts : Bool
  deriving DecidableEq, Repr

/-- Pending notice kinds of a lane (Table 5-2). -/
structure LaneKinds where
  band : Bool
  count : Bool
  zero : Bool
  capture : Bool
  deriving DecidableEq, Repr

/-- One lane record (Tables 1-1 and 1-2). -/
structure Lane where
  config : LaneConfig
  state : LaneState
  cells : List LaneCell
  window : List Int
  count : Nat
  settled : Option Int
  band : Band
  refBand : Band
  agree : Bool
  unfitRun : Nat
  alertPending : Bool
  alertAnnounced : Bool
  beaconLit : Bool
  raiseTime : Option Clock
  kinds : LaneKinds
  due : Bool
  dueSince : Clock
  zeroResult : Option ZeroResult
  zeroDeadline : Option Clock
  replenishDeadline : Option Clock
  overfill : Bool
  feedDoubtful : Bool
  captureOverflow : Bool
  deriving DecidableEq, Repr

/-! ### Images (chapter 2) -/

/-- A capture table entry (Table 2-2). -/
structure CaptureEntry where
  valid : Bool
  keySegment : Segment
  keyAddress : BitVec 6
  keyCell : Fin 4
  mask : Fin 4
  lane : Fin 128
  deriving DecidableEq, Repr

/-- A mask slot (Table 2-3). -/
structure MaskSlot where
  compareSegment : Bool
  addressBits : BitVec 6
  compareCell : Bool
  deriving DecidableEq, Repr

/-- A calibration cell (Table 2-4). -/
structure Calibration where
  zero : Int
  gain : Nat
  deriving DecidableEq, Repr

/-- A sweep list position (Table 2-5). -/
structure SweepPosition where
  occupied : Bool
  address : BitVec 6
  cellCount : Nat
  mirror : Bool
  autoRecover : Bool
  deriving DecidableEq, Repr

/-- One image (Table 2-1). Calibration cell `slot × 4 + k` serves cell `k` of the slot; sweep position
`p` of segment A is slot `p`, of segment B slot `32 + p`. -/
structure Image where
  captures : Table CaptureEntry 64
  masks : Table MaskSlot 4
  calibration : Table Calibration 256
  sweep : Table SweepPosition 64
  deriving DecidableEq, Repr

/-- What a resolution in flight holds until it completes (R27). -/
structure Resolution where
  lists : Table (List CellRef) 128
  overflow : Table Bool 128
  changed : Table Bool 64
  deriving DecidableEq, Repr

/-! ### Nodes (chapter 7) -/

/-- One node record (Table 7-1) with the notice fields kept beside it. -/
structure Node where
  state : NodeState
  score : Nat
  missRun : Nat
  probeRun : Nat
  recovery : RecoveryMode
  releaseGranted : Bool
  corruptSeen : Bool
  malformedSeen : Bool
  missedSeen : Bool
  statePending : Bool
  due : Bool
  dueSince : Clock
  deriving DecidableEq, Repr

/-! ### Shelf segments (chapter 6) -/

/-- One relay queue entry (Table 6-3). -/
structure Relay where
  acceptance : Nat
  tag : Byte
  address : BitVec 6
  disturbs : Bool
  message : List Byte
  failed : Nat
  outcome : Option RelayOutcome
  deriving DecidableEq, Repr

/-- Where a phase of a visit stands (R108, R109). -/
inductive Stage where
  /-- The frame waits for a reception on the line to end. -/
  | waiting
  /-- The frame is being sent; the direction line is at transmit. -/
  | sending
  /-- The reply window is open for `elapsed` of its `length` ms. -/
  | window (elapsed length : Nat)
  /-- A reply is being received. -/
  | receiving
  deriving DecidableEq, Repr

/-- The visit in progress: the recorded sweep list entry (R108), whether a COMMIT has changed the
slot meanwhile (R28), the acceptance number of the relay in delivery (`none` in the poll phase), the
frame of the phase as sent, and the stage. -/
structure Visit where
  slot : Fin 64
  address : BitVec 6
  cellCount : Nat
  mirror : Bool
  changed : Bool
  relay : Option Nat
  frame : List Byte
  stage : Stage
  deriving DecidableEq, Repr

/-- One Shelf Sweep Engine. It is sweeping exactly while a visit is in progress (R107). -/
structure SweepEngine where
  /-- Ms since the start of the current or last sweep. -/
  sinceStart : Nat
  timerExpired : Bool
  owed : Bool
  late : Bool
  visit : Option Visit
  /-- A reception is in progress on the line that belongs to no phase. -/
  stray : Bool
  relays : List Relay
  deriving DecidableEq, Repr

/-! ### Notice Unit (chapter 5) -/

/-- A notice subject: subject number `n` for a lane, `128 + slot` for a node (5.2). -/
inductive Subject where
  | lane (n : Fin 128)
  | node (slot : Fin 64)
  deriving DecidableEq, Repr

/-- An alert group (Table 5-1). -/
structure Group where
  enable : Bool
  priority : Nat
  route : Route
  beacon : Fin 4
  deriving DecidableEq, Repr

/-- An entry of the notice queue (R88). -/
structure QueueEntry where
  subject : Subject
  number : Nat
  deriving DecidableEq, Repr

/-- A beacon output (R96): not driven, steady, or flashing in its high or low phase for `elapsed` ms. -/
inductive Beacon where
  | off
  | steady
  | flashing (high : Bool) (elapsed : Nat)
  deriving DecidableEq, Repr

/-- The aisle key (R98). The debounced key is released exactly in `idle`; `elapsed` is the hold timer. -/
inductive KeyState where
  | idle
  | pressed (elapsed : Nat)
  | long
  deriving DecidableEq, Repr

structure NoticeUnit where
  groups : Table Group 16
  output : NoticeOutput
  queue : List QueueEntry
  /-- The deferred set, in rising subject order so that equal sets are equal data (R89). -/
  deferred : List Subject
  nextAdmission : Nat
  /-- Ms since the last NOTICE was taken; `none` counts as elapsed (R91). -/
  spacing : Option Nat
  beacons : Table Beacon 4
  /-- The AKEY input reads low. -/
  akeyLow : Bool
  /-- Ms for which a level that differs from the debounced key has lasted (R97). -/
  debounce : Option Nat
  key : KeyState
  keyFlag : Bool
  /-- Present while aisle hold is in force (R100). -/
  holdDeadline : Option Clock
  deriving DecidableEq, Repr

/-! ### Backbone Switch (chapter 8) -/

/-- A frame: a reception that passed every check of R137. The length field and the CRC-16 follow from
the rest. -/
structure Frame where
  kind : Byte
  destination : BitVec 16
  source : BitVec 16
  tag : Byte
  payload : List Byte
  deriving DecidableEq, Repr

structure Backbone where
  /-- `none` while unassigned. -/
  address : Option (BitVec 16)
  clock : Clock
  upFifo : List Frame
  downFifo : List Frame
  streak : Nat
  /-- The payload of the MIRROR waiting, fixed at the reading (R114). -/
  mirror : Option (List Byte)
  buFaults : Nat
  bdFaults : Nat
  upDrops : Nat
  downDrops : Nat
  /-- The frame the BU transmitter was last given. -/
  buTx : Option Frame
  /-- The frame the BD transmitter was last given. -/
  bdTx : Option Frame
  deriving DecidableEq, Repr

/-! ### Management Engine (chapter 9) -/

/-- Station settings (Table 9-3). -/
structure Settings where
  queueOrder : QueueOrder
  spacing : Nat
  burst : Nat
  holdLimit : Nat
  absentLimit : Nat
  nodePriority : Nat
  periodA : Nat
  windowA : Nat
  periodB : Nat
  windowB : Nat
  deriving DecidableEq, Repr

/-- An entry of the intake FIFO (R154). -/
structure Request where
  tag : Byte
  broadcast : Bool
  payload : List Byte
  deriving DecidableEq, Repr

/-- The REPLY in the reply slot (R159). -/
structure Reply where
  tag : Byte
  payload : List Byte
  deriving DecidableEq, Repr

/-- Engine state (R156). COMMITTING holds the COMMIT's tag and its resolution in flight. -/
inductive EngineState where
  | idle
  | committing (tag : Byte) (resolution : Resolution)
  | restarting
  deriving DecidableEq, Repr

structure Management where
  settings : Settings
  intake : List Request
  reply : Option Reply
  engine : EngineState
  requestOverrun : Bool
  missedBroadcast : Bool
  deriving DecidableEq, Repr

/-! ### The machine -/

/-- No event of the manual stops the part: a refused request is answered (R158), a rejected reception
is counted (R137). So there is no fault, and this type has no constructor. -/
inductive Fault where
  deriving DecidableEq, Repr

/-- The reasons to give a command no meaning. -/
inductive Refusal where
  /-- Raised by an arm of `exec` whose command has no meaning yet. No arm does. Safe: the machine
  stops where the hardware goes on. -/
  | notModelled (mnemonic : String)
  deriving DecidableEq, Repr

structure State where
  /-- Commands waiting, first in first out (the model's own field). -/
  pending : List Instr
  backbone : Backbone
  mgmt : Management
  notice : NoticeUnit
  staged : Image
  active : Image
  lanes : Table Lane 128
  nodes : Table Node 64
  sweepA : SweepEngine
  sweepB : SweepEngine
  /-- Last accepted sequence of each slot (R111). -/
  sequences : Table (Option Byte) 64
  /-- The next relay acceptance number, over both queues (Table 6-3). -/
  nextAcceptance : Nat
  deriving DecidableEq, Repr

/-! ### Cold start values -/

/-- Defaults of Table 1-1. -/
def LaneConfig.cold : LaneConfig where
  enabled := false
  product := 0
  unitWeight := 1000
  tare := 0
  capacity := 100
  lowMark := 20
  criticalMark := 5
  hysteresis := 2
  settleCount := 4
  settleBand := 100
  tolFixed := 200
  tolUnit := 20
  unfitLimit := 20
  replenish := 300
  group := 0
  reportCounts := false

/-- Cold start values of a lane record (R17). -/
def Lane.cold : Lane where
  config := .cold
  state := .unbound
  cells := []
  window := []
  count := 0
  settled := none
  band := .unknown
  refBand := .stocked
  agree := true
  unfitRun := 0
  alertPending := false
  alertAnnounced := false
  beaconLit := false
  raiseTime := none
  kinds := ⟨false, false, false, false⟩
  due := false
  dueSince := 0
  zeroResult := none
  zeroDeadline := none
  replenishDeadline := none
  overfill := false
  feedDoubtful := false
  captureOverflow := false

/-- Both images at cold start (R35, defaults of Tables 2-2 to 2-5). -/
def Image.cold : Image where
  captures := .const 64 ⟨false, .a, 0, 0, 0, 0⟩
  masks := .const 4 ⟨true, 0x3F, true⟩
  calibration := .const 256 ⟨0, 8192⟩
  sweep := .const 64 ⟨false, 0, 1, false, true⟩

/-- A node record at cold start (R134). Due since 0: DESIGN CHOICE, log 10, unsafe. -/
def Node.cold : Node where
  state := .active
  score := 0
  missRun := 0
  probeRun := 0
  recovery := .auto
  releaseGranted := false
  corruptSeen := false
  malformedSeen := false
  missedSeen := false
  statePending := false
  due := false
  dueSince := 0

/-- A sweep engine at cold start (R120). -/
def SweepEngine.cold : SweepEngine where
  sinceStart := 0
  timerExpired := true
  owed := false
  late := false
  visit := none
  stray := false
  relays := []

/-- The Notice Unit at cold start (R102). AKEY high: DESIGN CHOICE, log 7, unsafe. Admission numbers
from 0: DESIGN CHOICE, log 10, unsafe. -/
def NoticeUnit.cold : NoticeUnit where
  groups := .const 16 ⟨false, 0, .notice, 0⟩
  output := .on
  queue := []
  deferred := []
  nextAdmission := 0
  spacing := none
  beacons := .const 4 .off
  akeyLow := false
  debounce := none
  key := .idle
  keyFlag := false
  holdDeadline := none

/-- The Backbone Switch at cold start (R152). -/
def Backbone.cold : Backbone where
  address := none
  clock := 0
  upFifo := []
  downFifo := []
  streak := 0
  mirror := none
  buFaults := 0
  bdFaults := 0
  upDrops := 0
  downDrops := 0
  buTx := none
  bdTx := none

/-- Default station settings (Table 9-3). -/
def Settings.cold : Settings where
  queueOrder := .priority
  spacing := 20
  burst := 4
  holdLimit := 30
  absentLimit := 10
  nodePriority := 6
  periodA := 100
  windowA := 3
  periodB := 100
  windowB := 3

/-- The Management Engine at cold start (R168). -/
def Management.cold : Management where
  settings := .cold
  intake := []
  reply := none
  engine := .idle
  requestOverrun := false
  missedBroadcast := false

/-- The machine right after power-on: every block at its cold start values (R17, R35, R102, R120, R134,
R152, R168). Acceptance numbers from 0: DESIGN CHOICE, log 10, unsafe. -/
def State.reset : State where
  pending := []
  backbone := .cold
  mgmt := .cold
  notice := .cold
  staged := .cold
  active := .cold
  lanes := .const 128 .cold
  nodes := .const 64 .cold
  sweepA := .cold
  sweepB := .cold
  sequences := .const 64 none
  nextAcceptance := 0

end Sys2Proof.Machine
end

