-- ==== Sys2Proof/Machine/Flags.lean ====
section
/-! DEFINITION. Code values (Tables 8-6, 8-8, 9-1) and flag bytes (Tables 8-7, 9-1, 9-4, 9-5). -/

namespace Sys2Proof

/-- Request codes of Table 9-1. -/
def RequestCode.code : RequestCode → Byte
  | .identify => 0x01
  | .readStatus => 0x02
  | .writeStation => 0x03
  | .noticeOutput => 0x04
  | .writeCapture => 0x10
  | .writeMask => 0x11
  | .writeCalibration => 0x12
  | .loadSweepList => 0x13
  | .commit => 0x14
  | .discard => 0x15
  | .writeLane => 0x20
  | .readLane => 0x21
  | .zeroLane => 0x22
  | .acknowledge => 0x23
  | .writeGroup => 0x24
  | .readNode => 0x30
  | .releaseNode => 0x31
  | .relay => 0x32
  | .aisleHold => 0x40
  | .aisleRelease => 0x41
  | .restart => 0x4F

def RequestCode.all : List RequestCode :=
  [.identify, .readStatus, .writeStation, .noticeOutput, .writeCapture, .writeMask,
   .writeCalibration, .loadSweepList, .commit, .discard, .writeLane, .readLane, .zeroLane,
   .acknowledge, .writeGroup, .readNode, .releaseNode, .relay, .aisleHold, .aisleRelease, .restart]

/-- The request of a code, if Table 9-1 has one. -/
def RequestCode.ofByte (b : Byte) : Option RequestCode := RequestCode.all.find? (·.code == b)

/-- The four requests accepted as broadcasts (R157). -/
def RequestCode.broadcastable : RequestCode → Bool
  | .noticeOutput | .writeGroup | .aisleHold | .aisleRelease => true
  | _ => false

/-- The payload length fits the request (Table 9-1, check 3 of R158). -/
def RequestCode.fits (c : RequestCode) (length : Nat) : Bool :=
  match c with
  | .identify | .readStatus | .commit | .discard | .aisleHold | .aisleRelease | .restart => length == 1
  | .noticeOutput | .zeroLane | .readNode | .releaseNode => length == 2
  | .readLane => length == 3
  | .writeMask => length == 5
  | .writeGroup => length == 6
  | .writeCapture | .writeCalibration => length == 8
  | .writeStation => length == 14
  | .writeLane => length == 31
  | .loadSweepList => length ≥ 5 && length ≤ 35 && length % 2 == 1
  | .acknowledge => length ≥ 3 && length ≤ 25 && length % 2 == 1
  | .relay => length ≥ 5 && length ≤ 20

def Segment.code : Segment → Nat
  | .a => 0
  | .b => 1

def Segment.ofCode : Nat → Option Segment
  | 0 => some .a
  | 1 => some .b
  | _ => none

end Sys2Proof

namespace Sys2Proof.Machine

/-- Backbone kinds (Table 8-8). -/
def kindManage : Byte := 0x51
def kindReply : Byte := 0x52
def kindNotice : Byte := 0x53
def kindMirror : Byte := 0x54
def kindTime : Byte := 0x55
def kindEnumerate : Byte := 0x56
def kindRelayResult : Byte := 0x57

/-- Shelf kinds (Table 8-10). -/
def kindPoll : Byte := 0x21
def kindReading : Byte := 0x22
def kindRelay : Byte := 0x23
def kindRelayAnswer : Byte := 0x24

/-- The destination of a frame for all stations (Table 8-5). -/
def allStations : BitVec 16 := 0xFFFF

def Band.code : Band → Nat
  | .empty => 0
  | .critical => 1
  | .low => 2
  | .stocked => 3
  | .unknown => 4

def Band.ofCode : Nat → Option Band
  | 0 => some .empty
  | 1 => some .critical
  | 2 => some .low
  | 3 => some .stocked
  | 4 => some .unknown
  | _ => none

def LaneState.code : LaneState → Nat
  | .unbound => 0
  | .acquiring => 1
  | .steady => 2
  | .moving => 3
  | .suspect => 4
  | .blind => 5

def NodeState.code : NodeState → Nat
  | .active => 0
  | .doubtful => 1
  | .cutOff => 2
  | .absent => 3

def Result.code : Result → Nat
  | .done => 0
  | .adjusted => 1
  | .badLength => 2
  | .badValue => 3
  | .noSuch => 4
  | .laneUnbound => 5
  | .laneBlind => 6
  | .queueFull => 7

/-- Zero result code; 0 when absent. -/
def zeroResultCode : Option ZeroResult → Nat
  | none => 0
  | some .done => 1
  | some .clamped => 2
  | some .timeout => 3
  | some .cancelled => 4

/-- Relay outcome code. A RELAY RESULT carries an ended relay only, so `none` has no code of the
manual's and is given 0. -/
def relayOutcomeCode : Option RelayOutcome → Nat
  | none => 0
  | some .delivered => 1
  | some .refused => 2
  | some .unanswered => 3
  | some .noNode => 4

def CellStatus.code : CellStatus → Nat
  | .valid => 0
  | .overload => 1
  | .fault => 2

def CellStatus.ofCode : Nat → Option CellStatus
  | 0 => some .valid
  | 1 => some .overload
  | 2 => some .fault
  | _ => none

def Route.ofCode : Nat → Option Route
  | 0 => some .notice
  | 1 => some .beacon
  | 2 => some .both
  | _ => none

def NoticeOutput.ofCode : Nat → Option NoticeOutput
  | 0 => some .on
  | 1 => some .held
  | _ => none

def QueueOrder.code : QueueOrder → Nat
  | .priority => 0
  | .arrival => 1

def QueueOrder.ofCode : Nat → Option QueueOrder
  | 0 => some .priority
  | 1 => some .arrival
  | _ => none

/-- Notice kinds of a lane as a bit set (Table 8-6). -/
def LaneKinds.bits (k : LaneKinds) : Nat := packBits [k.band, k.count, k.zero, k.capture]

def LaneKinds.any (k : LaneKinds) : Bool := k.band || k.count || k.zero || k.capture

def LaneKinds.none : LaneKinds := ⟨false, false, false, false⟩

/-- Notice kinds of a node as a bit set: bit 4 is STATE (Table 8-6). -/
def Node.kindBits (n : Node) : Nat := packBits [false, false, false, false, n.statePending]

/-- The warning flag (R127). -/
def Node.warning (n : Node) : Bool := n.score ≥ 96

/-- Byte 20 of a lane NOTICE and flags A of READ LANE (Tables 8-7, 9-5). -/
def Lane.flagsA (l : Lane) : Nat :=
  packBits [l.agree, l.alertPending, l.alertAnnounced, l.beaconLit, l.overfill, l.feedDoubtful,
    l.captureOverflow, l.settled.isSome]

/-- Flags B of READ LANE (Table 9-5). -/
def Lane.flagsB (l : Lane) : Nat :=
  packBits [l.raiseTime.isSome, l.due, l.zeroDeadline.isSome, l.replenishDeadline.isSome]

/-- Flags of READ NODE (Table 9-1, note 2). -/
def Node.readFlags (n : Node) : Nat :=
  packBits [n.warning, n.recovery == .release, n.releaseGranted, n.corruptSeen, n.malformedSeen,
    n.missedSeen]

/-- Byte 12 of a node NOTICE (Table 8-7). -/
def Node.noticeFlags (n : Node) : Nat :=
  packBits [n.warning, n.releaseGranted, n.corruptSeen, n.malformedSeen, n.missedSeen]

/-- A clock value of a field that may be absent; 0 when absent. -/
def clockBytes (c : Option Clock) : List Byte := be4 (c.getD 0).toNat

end Sys2Proof.Machine
end

