-- ==== Sys2Proof/Machine/Operands.lean ====
section
/-! DEFINITION. The fields of the requests as their payload bytes spell them (Table 9-1, Table 8-9),
byte numbers counted as the tables count them: byte 0 is the request code. -/

namespace Sys2Proof.Machine

/-- A number as an index below `n`, if it is one. -/
def index (n k : Nat) : Option (Fin n) := if h : k < n then some ⟨k, h⟩ else none

def clampTo (lo hi x : Nat) : Nat := max lo (min hi x)

/-! ### WRITE LANE (Table 8-9) -/

/-- The configuration fields of a WRITE LANE as written, before clamping. -/
structure LaneWrite where
  enabled : Bool
  product : BitVec 32
  unitWeight : Nat
  tare : Nat
  capacity : Nat
  lowMark : Nat
  criticalMark : Nat
  hysteresis : Nat
  settleCount : Nat
  settleBand : Nat
  tolFixed : Nat
  tolUnit : Nat
  unfitLimit : Nat
  replenish : Nat
  group : Nat
  reportCounts : Bool
  deriving DecidableEq, Repr

def laneWrite (p : List Byte) : LaneWrite where
  enabled := yesAt p 2
  product := BitVec.ofNat 32 (fieldAt p 3 4)
  unitWeight := fieldAt p 7 2
  tare := fieldAt p 9 4
  capacity := fieldAt p 13 2
  lowMark := fieldAt p 15 2
  criticalMark := fieldAt p 17 2
  hysteresis := byteAt p 19
  settleCount := byteAt p 20
  settleBand := fieldAt p 21 2
  tolFixed := fieldAt p 23 2
  tolUnit := byteAt p 25
  unfitLimit := byteAt p 26
  replenish := fieldAt p 27 2
  group := byteAt p 29
  reportCounts := yesAt p 30

/-- The configuration that is stored (R1): each field clamped to Table 1-1, capacity before low mark
before critical mark. `g` is the group, which is checked and never clamped. -/
def LaneWrite.stored (w : LaneWrite) (g : Fin 16) : LaneConfig :=
  let capacity := clampTo 1 4095 w.capacity
  let low := min w.lowMark (capacity - 1)
  { enabled := w.enabled
    product := w.product
    unitWeight := min w.unitWeight 65000
    tare := min w.tare Config.maxTare
    capacity := capacity
    lowMark := low
    criticalMark := min w.criticalMark low
    hysteresis := w.hysteresis
    settleCount := clampTo 2 8 w.settleCount
    settleBand := max 1 w.settleBand
    tolFixed := w.tolFixed
    tolUnit := w.tolUnit
    unfitLimit := max 1 w.unfitLimit
    replenish := min w.replenish 1800
    group := g
    reportCounts := w.reportCounts }

/-- The fields as written are the fields stored: nothing was clamped (R1). -/
def LaneWrite.exact (w : LaneWrite) (c : LaneConfig) : Bool :=
  w.unitWeight == c.unitWeight && w.tare == c.tare && w.capacity == c.capacity
    && w.lowMark == c.lowMark && w.criticalMark == c.criticalMark
    && w.settleCount == c.settleCount && w.settleBand == c.settleBand
    && w.unfitLimit == c.unfitLimit && w.replenish == c.replenish

/-- A stored configuration in the order and widths of bytes 2 to 30 of Table 8-9 (Table 9-5). What is stored
of enabled and report counts is yes or no, and yes is sent as 01h whatever byte was written (log 29). -/
def LaneConfig.bytes (c : LaneConfig) : List Byte :=
  [yesByte c.enabled] ++ be4 c.product.toNat ++ be2 c.unitWeight ++ be4 c.tare ++ be2 c.capacity
    ++ be2 c.lowMark ++ be2 c.criticalMark ++ [byteOf c.hysteresis, byteOf c.settleCount]
    ++ be2 c.settleBand ++ be2 c.tolFixed ++ [byteOf c.tolUnit, byteOf c.unfitLimit]
    ++ be2 c.replenish ++ [byteOf c.group.val, yesByte c.reportCounts]

/-! ### WRITE STATION (Table 9-3) -/

/-- The settings as written; the queue order is judged apart (R162). -/
def settingsWritten (p : List Byte) (order : QueueOrder) : Settings where
  queueOrder := order
  spacing := fieldAt p 2 2
  burst := byteAt p 4
  holdLimit := byteAt p 5
  absentLimit := byteAt p 6
  nodePriority := byteAt p 7
  periodA := fieldAt p 8 2
  windowA := byteAt p 10
  periodB := fieldAt p 11 2
  windowB := byteAt p 13

/-- Each setting clamped to its range (Table 9-3). -/
def Settings.clamped (w : Settings) : Settings where
  queueOrder := w.queueOrder
  spacing := clampTo 0 1000 w.spacing
  burst := clampTo 1 8 w.burst
  holdLimit := clampTo 1 240 w.holdLimit
  absentLimit := clampTo 1 255 w.absentLimit
  nodePriority := clampTo 0 7 w.nodePriority
  periodA := clampTo 50 1000 w.periodA
  windowA := clampTo 1 10 w.windowA
  periodB := clampTo 50 1000 w.periodB
  windowB := clampTo 1 10 w.windowB

/-- The thirteen bytes of the settings (Table 9-3, note 2). -/
def Settings.bytes (w : Settings) : List Byte :=
  [byteOf w.queueOrder.code] ++ be2 w.spacing
    ++ [byteOf w.burst, byteOf w.holdLimit, byteOf w.absentLimit, byteOf w.nodePriority]
    ++ be2 w.periodA ++ [byteOf w.windowA] ++ be2 w.periodB ++ [byteOf w.windowB]

def Settings.period (w : Settings) : Segment → Nat
  | .a => w.periodA
  | .b => w.periodB

def Settings.window (w : Settings) : Segment → Nat
  | .a => w.windowA
  | .b => w.windowB

/-! ### LOAD SWEEP LIST (Table 9-1, note 1) -/

/-- One record of two bytes. -/
def sweepRecord (b c : Byte) : SweepPosition where
  occupied := b.msb
  address := b.setWidth 6
  cellCount := (c.setWidth 3).toNat
  mirror := c.getLsbD 3
  autoRecover := c.getLsbD 4

/-- The records of a LOAD SWEEP LIST, from payload byte 3 on. -/
def sweepRecords : List Byte → List SweepPosition
  | b :: c :: rest => sweepRecord b c :: sweepRecords rest
  | _ => []

/-- A shelf address a node may carry: 1 to 62 (Table 2-5). -/
def nodeAddress (a : BitVec 6) : Bool := 1 ≤ a.toNat && a.toNat ≤ 62

/-- Check 3 of R23 on one record. -/
def SweepPosition.acceptable (r : SweepPosition) : Bool :=
  (!r.occupied || nodeAddress r.address) && 1 ≤ r.cellCount && r.cellCount ≤ 4

/-! ### ACKNOWLEDGE -/

/-- The pairs of an ACKNOWLEDGE: lane byte and band byte, from payload byte 1 on. -/
def ackPairs : List Byte → List (Nat × Nat)
  | l :: b :: rest => (l.toNat, b.toNat) :: ackPairs rest
  | _ => []

/-- R78: the first failing pair decides; within a pair the lane before the band. -/
def ackCheck : List (Nat × Nat) → Except Result (List (Fin 128 × Band))
  | [] => .ok []
  | (l, b) :: rest =>
    match index 128 l, Band.ofCode b with
    | none, _ => .error .noSuch
    | some _, none => .error .badValue
    | some lane, some band =>
      match ackCheck rest with
      | .error r => .error r
      | .ok pairs => .ok ((lane, band) :: pairs)

end Sys2Proof.Machine
end

