-- ==== Sys2Proof/Machine/Counting.lean ====
section
/-! DEFINITION. Rounding, the settle test, counting and the bands: chapter 3 and 4.1. -/

namespace Sys2Proof.Machine

/-- Division rounded half away from zero (R37). -/
def roundDiv (a : Int) (b : Nat) : Int :=
  let q := a.natAbs / b
  let r := a.natAbs % b
  let magnitude : Int := if b ≤ 2 * r then q + 1 else q
  if a < 0 then -magnitude else magnitude

/-- Largest less smallest (R40); 0 for an empty list. -/
def spread : List Int → Int
  | [] => 0
  | x :: xs => xs.foldl max x - xs.foldl min x

/-- A count estimate and its verdict (R46 to R48). -/
structure Estimate where
  count : Nat
  fit : Bool
  deriving DecidableEq, Repr

/-- The count estimate of settled weight `w` under configuration `c` (R45 to R48). -/
def estimate (c : LaneConfig) (w : Int) : Estimate :=
  let net := w - c.tare
  let rounded := if net ≤ 0 then 0 else (roundDiv net c.unitWeight).toNat
  let n := min rounded Config.maxCount
  let residual := net - n * c.unitWeight
  let tolerance := c.tolFixed + n * c.tolUnit
  { count := n, fit := rounded ≤ Config.maxCount && residual.natAbs ≤ tolerance }

/-- The raw band of a count (R60). -/
def rawBand (c : LaneConfig) (n : Nat) : Band :=
  if n = 0 then .empty
  else if n ≤ c.criticalMark then .critical
  else if n ≤ c.lowMark then .low
  else .stocked

/-- Place in the order EMPTY, CRITICAL, LOW, STOCKED; UNKNOWN is outside it (4.1). -/
def Band.rank : Band → Nat
  | .empty => 0
  | .critical => 1
  | .low => 2
  | .stocked => 3
  | .unknown => 4

/-- A band that some count has as its raw band (R60). -/
def Band.nonEmpty (c : LaneConfig) : Band → Bool
  | .empty => true
  | .critical => 1 ≤ c.criticalMark
  | .low => c.criticalMark < c.lowMark
  | .stocked => true
  | .unknown => false

/-- Entry thresholds (R61). -/
def Band.entry (c : LaneConfig) : Band → Nat
  | .critical => 1 + c.hysteresis
  | .low => c.criticalMark + 1 + c.hysteresis
  | .stocked => c.lowMark + 1 + c.hysteresis
  | .empty => 0
  | .unknown => 0

/-- A band that a rise from `current` to count `n` may reach (R61). -/
def Band.qualifies (c : LaneConfig) (current : Band) (n : Nat) (x : Band) : Bool :=
  x.nonEmpty c && current.rank < x.rank && x.rank ≤ (rawBand c n).rank && x.entry c ≤ n

/-- The band of count `n` for a lane that holds a counted band (R61). -/
def hysteresisBand (c : LaneConfig) (current : Band) (n : Nat) : Band :=
  if (rawBand c n).rank ≤ current.rank then rawBand c n
  else ([Band.stocked, .low, .critical].find? (Band.qualifies c current n)).getD current

/-- The band computed for a count (R61; R62 when the band is UNKNOWN). -/
def nextBand (c : LaneConfig) (current : Band) (n : Nat) : Band :=
  if current = .unknown then rawBand c n else hysteresisBand c current n

end Sys2Proof.Machine
end

