-- ==== Sys2Proof/Machine/Lanes.lean ====
section
/-! DEFINITION. One lane record at one event: entering states, zeroing, samples, rewriting (chapters 1
and 3), and agreement and alerts (chapter 4). Nothing here looks beyond the record but to node states,
the alert groups, the clock and aisle hold, which are arguments. -/

namespace Sys2Proof.Machine

/-! ### Cells and feeding nodes -/

/-- A node state that loses its lanes: CUT_OFF or ABSENT. -/
def NodeState.lost : NodeState → Bool
  | .cutOff | .absent => true
  | .active | .doubtful => false

/-- The node in the slot feeds the lane (1.2). -/
def Lane.fedBy (slot : Fin 64) (l : Lane) : Bool := l.cells.any (fun c => c.ref.slot == slot)

/-- Bound: enabled with at least one cell (R2). -/
def Lane.bound (l : Lane) : Bool := l.config.enabled && !l.cells.isEmpty

/-- A feeding node is CUT_OFF or ABSENT. -/
def Lane.feedLost (nodes : Table Node 64) (l : Lane) : Bool :=
  l.cells.any (fun c => (nodes.get c.ref.slot).state.lost)

/-- Feed doubtful set again from the node states (R10). -/
def Lane.setDoubt (nodes : Table Node 64) (l : Lane) : Lane :=
  { l with feedDoubtful := l.cells.any (fun c => (nodes.get c.ref.slot).state == .doubtful) }

/-- Zeroing is in progress (1.2). -/
def Lane.zeroing (l : Lane) : Bool := l.zeroDeadline.isSome

/-! ### Window clear and the ends of zeroing -/

/-- The window and the fresh set emptied; the values stay (R6). -/
def Lane.clearWindow (l : Lane) : Lane :=
  { l with window := [], cells := l.cells.map (fun c => { c with fresh := false }) }

/-- What every ending of zeroing writes (R14 step 7, R15, R16). -/
def Lane.endZeroing (r : ZeroResult) (l : Lane) : Lane :=
  { l with zeroDeadline := none, zeroResult := some r, kinds := { l.kinds with zero := true } }

/-- Zeroing, if in progress, ends with CANCELLED (R16). -/
def Lane.cancelZeroing (l : Lane) : Lane := if l.zeroing then l.endZeroing .cancelled else l

/-! ### Entering states -/

/-- Entry to UNBOUND (R3). -/
def Lane.enterUnbound (l : Lane) : Lane :=
  let l := l.clearWindow.cancelZeroing
  { l with
    state := .unbound
    band := .unknown
    agree := true
    alertPending := false
    beaconLit := false
    kinds := { l.kinds with band := false }
    replenishDeadline := none
    unfitRun := 0
    overfill := false }

/-- Entry to ACQUIRING (R5). -/
def Lane.enterAcquiring (l : Lane) : Lane :=
  { l.clearWindow with state := .acquiring, band := .unknown, unfitRun := 0 }

/-- Entry to BLIND (R7). -/
def Lane.enterBlind (l : Lane) : Lane :=
  { l.clearWindow.cancelZeroing with state := .blind, band := .unknown }

/-- A lane that becomes bound, or whose list changes while it stays bound: BLIND if a feeding node is
lost, ACQUIRING otherwise (R4, R29 step 3). -/
def Lane.enterBound (nodes : Table Node 64) (l : Lane) : Lane :=
  if l.feedLost nodes then l.enterBlind else l.enterAcquiring

/-- A state that node loss moves to BLIND and that a write of tare moves to ACQUIRING. -/
def LaneState.counting : LaneState → Bool
  | .acquiring | .steady | .moving | .suspect => true
  | .unbound | .blind => false

/-- A feeding node has entered CUT_OFF or ABSENT (R7). -/
def Lane.nodeLost (l : Lane) : Lane := if l.state.counting then l.enterBlind else l

/-- STEADY becomes MOVING; other states stay (R6, R44). -/
def LaneState.disturbed : LaneState → LaneState
  | .steady => .moving
  | s => s

/-- A delivered relay flagged disturbs readings (R6). -/
def Lane.disturb (l : Lane) : Lane :=
  if l.state = .unbound then l else { l.clearWindow with state := l.state.disturbed }

/-- ZERO LANE on a counting lane (R13). -/
def Lane.beginZeroing (now : Clock) (l : Lane) : Lane :=
  { l.clearWindow with
    state := l.state.disturbed
    zeroDeadline := some (now + BitVec.ofNat 32 Config.zeroingTime)
    zeroResult := none }

/-! ### Settled results -/

/-- Zeroing takes settled weight `w` (R14). -/
def Lane.zeroWith (w : Int) (l : Lane) : Lane :=
  let tare := min w.toNat Config.maxTare
  let l := l.endZeroing (if (tare : Int) = w then .done else .clamped)
  { l with
    settled := some w
    config := { l.config with tare := tare }
    count := 0
    unfitRun := 0
    overfill := false
    state := .steady
    band := .empty
    refBand := .empty
    agree := true
    alertPending := false
    beaconLit := false
    kinds := { l.kinds with band := false } }

/-- A fit result of count `n` (R50, R51, R52). -/
def Lane.fitResult (w : Int) (n : Nat) (l : Lane) : Lane :=
  { l with
    settled := some w
    count := n
    unfitRun := 0
    state := .steady
    overfill := l.config.capacity < n
    kinds := { l.kinds with count := l.kinds.count || (n != l.count && l.config.reportCounts) }
    band := nextBand l.config l.band n }

/-- An unfit result (R53, R54). -/
def Lane.unfitResult (w : Int) (l : Lane) : Lane :=
  let run := min Config.runCeiling (l.unfitRun + 1)
  let l := { l with settled := some w, unfitRun := run }
  if l.config.unfitLimit ≤ run then { l with state := .suspect, band := .unknown }
  else { l with state := l.state.disturbed }

/-- Counting takes settled weight `w` (3.3, 3.4). -/
def Lane.countWith (w : Int) (l : Lane) : Lane :=
  let e := estimate l.config w
  if e.fit then l.fitResult w e.count else l.unfitResult w

/-- One settled result has one taker (R43). -/
def Lane.settledResult (w : Int) (l : Lane) : Lane :=
  if l.zeroing then l.zeroWith w else l.countWith w

/-- A sample joins the window and the window is tested (R38 to R44). -/
def Lane.joinWindow (x : Int) (l : Lane) : Lane :=
  let all := l.window ++ [x]
  let w := all.drop (all.length - l.config.settleCount)
  let l := { l with window := w }
  if w.length < l.config.settleCount then l
  else if spread w ≤ l.config.settleBand then l.settledResult (roundDiv w.sum l.config.settleCount)
  else { l with state := l.state.disturbed }

/-- A lane sample is handed to the Lane Engine (R8). -/
def Lane.takeSample (nodes : Table Node 64) (sum : Int) (valid : Bool) (l : Lane) : Lane :=
  match l.state with
  | .unbound => l
  | .blind =>
    if valid && !l.feedLost nodes then { l.enterAcquiring with window := [sum] } else l
  | .acquiring | .steady | .moving | .suspect =>
    if valid then l.joinWindow sum else l.enterBlind

/-! ### Rewriting (1.4) -/

/-- The lane state effects of a stored WRITE LANE in the order of R11; `l` already has the new
configuration and `old` the one before. -/
def Lane.rewriteState (nodes : Table Node 64) (old : LaneConfig) (l : Lane) : Lane :=
  let l := l.cancelZeroing
  if l.config.enabled != old.enabled then
    if l.cells.isEmpty then l
    else if l.config.enabled then (l.enterBound nodes).setDoubt nodes
    else l.enterUnbound
  else if l.state.counting && (l.config.unitWeight != old.unitWeight || l.config.tare != old.tare) then
    l.enterAcquiring
  else l

/-- The effects of R12 on the window and overfill. -/
def Lane.rewriteRest (old : LaneConfig) (l : Lane) : Lane :=
  { l with
    window := l.window.drop (l.window.length - l.config.settleCount)
    overfill :=
      if l.config.capacity != old.capacity && l.state != .unbound then l.config.capacity < l.count
      else l.overfill }

/-- The band recomputed when a threshold changed on a STEADY or MOVING lane (R64). -/
def Lane.rewriteBand (old : LaneConfig) (l : Lane) : Lane :=
  if (l.state == .steady || l.state == .moving)
      && (l.config.capacity != old.capacity || l.config.lowMark != old.lowMark
        || l.config.criticalMark != old.criticalMark || l.config.hysteresis != old.hysteresis) then
    { l with band := nextBand l.config l.band l.count }
  else l

/-- A WRITE LANE is stored: R11, then R12, then R64. -/
def Lane.rewrite (nodes : Table Node 64) (c : LaneConfig) (l : Lane) : Lane :=
  ((({ l with config := c } : Lane).rewriteState nodes l.config).rewriteRest l.config).rewriteBand
    l.config

/-! ### Agreement and alerts (4.2 to 4.4) -/

/-- The route sends alerts to notices. -/
def Route.toNotice : Route → Bool
  | .notice | .both => true
  | .beacon => false

/-- The route sends alerts to the beacon. -/
def Route.toBeacon : Route → Bool
  | .beacon | .both => true
  | .notice => false

/-- Enabled with route NOTICE or BOTH (5.1, note 2). -/
def Group.announcing (g : Group) : Bool := g.enable && g.route.toNotice

/-- An alert is raised (R75, R76). -/
def Lane.raise (groups : Table Group 16) (now : Clock) (l : Lane) : Lane :=
  let g := groups.get l.config.group
  { l with
    alertPending := true
    alertAnnounced := false
    raiseTime := some now
    beaconLit := l.beaconLit || g.route.toBeacon
    kinds := { l.kinds with band := l.kinds.band || g.announcing } }

/-- Frozen while a freeze cause is in force (R69). -/
def Lane.frozen (hold : Bool) (l : Lane) : Bool :=
  l.replenishDeadline.isSome || hold || l.state == .acquiring

/-- An agreement evaluation with raising allowed (R66). -/
def Lane.evaluateRaising (groups : Table Group 16) (now : Clock) (l : Lane) : Lane :=
  let agrees := l.band == l.refBand
  let l' := { l with agree := agrees }
  if l.agree && !agrees then l'.raise groups now else l'

/-- An evaluation without raising, unless frozen (R66, R79 step 4). -/
def Lane.evaluateQuietly (hold : Bool) (l : Lane) : Lane :=
  if l.frozen hold then l else { l with agree := l.band == l.refBand }

/-- A state in which the end of a freeze is evaluated (R70). -/
def LaneState.judged : LaneState → Bool
  | .steady | .moving | .suspect | .blind => true
  | .unbound | .acquiring => false

/-- The event that took the lane from `before` to `after` brought a trigger of R66: a band change other
than at entry to UNBOUND, the end of a freeze (R70), or entry to BLIND from UNBOUND (R67). -/
def Lane.triggered (holdBefore : Bool) (before after : Lane) : Bool :=
  (before.band != after.band && after.state != .unbound)
    || (before.frozen holdBefore && after.state.judged)
    || (before.state == .unbound && after.state == .blind)

/-- Agreement after an event on the lane: one evaluation with raising allowed if the event brought a
trigger and leaves the lane unfrozen (R66, R68). -/
def Lane.judge (groups : Table Group 16) (now : Clock) (holdBefore holdAfter : Bool)
    (before after : Lane) : Lane :=
  if after.frozen holdAfter then after
  else if Lane.triggered holdBefore before after then after.evaluateRaising groups now
  else after

/-- One pair of an ACKNOWLEDGE (R79). -/
def Lane.acknowledge (hold : Bool) (b : Band) (l : Lane) : Lane :=
  ({ l with
      refBand := b
      alertPending := false
      beaconLit := false
      kinds := { l.kinds with band := false } } : Lane).evaluateQuietly hold

/-- A bay key event of a feeding node (R71). -/
def Lane.bayKey (now : Clock) (l : Lane) : Lane :=
  if l.bound && l.config.replenish != 0 then
    let d := now + BitVec.ofNat 32 (l.config.replenish * 1000)
    let kept := match l.replenishDeadline with
      | some old => if (old - d).toInt > 0 then old else d
      | none => d
    { l with replenishDeadline := some kept, beaconLit := false }
  else l

/-- Warm start of a lane record (R18). -/
def Lane.warm (l : Lane) : Lane :=
  let l := { l.clearWindow with replenishDeadline := none, feedDoubtful := false }
  let l := l.cancelZeroing
  if l.bound then l.enterAcquiring else l

/-- An announcement of the group reaches the lane (R84). -/
def Lane.announce (l : Lane) : Lane :=
  if l.alertPending && !l.alertAnnounced then { l with kinds := { l.kinds with band := true } } else l

end Sys2Proof.Machine
end

