-- ==== Sys2Proof/Machine/Ops.lean ====
section
/-! DEFINITION. Shared operations over the whole state: named updates, clock arithmetic and the passing
of time. -/

namespace Sys2Proof.Machine

namespace State

/-- now: the station clock value at the event concerned (00_scope.md). -/
def now (s : State) : Clock := s.backbone.clock

/-- Aisle hold is in force (R100). -/
def holding (s : State) : Bool := s.notice.holdDeadline.isSome

def sweep (s : State) : Segment → SweepEngine
  | .a => s.sweepA
  | .b => s.sweepB

def setSweep (s : State) (g : Segment) (e : SweepEngine) : State :=
  match g with
  | .a => { s with sweepA := e }
  | .b => { s with sweepB := e }

def setVisit (s : State) (g : Segment) (v : Option Visit) : State :=
  s.setSweep g { s.sweep g with visit := v }

def setRelays (s : State) (g : Segment) (rs : List Relay) : State :=
  s.setSweep g { s.sweep g with relays := rs }

def mapLanes (s : State) (f : Lane → Lane) : State := { s with lanes := s.lanes.map f }

def modifyLane (s : State) (n : Fin 128) (f : Lane → Lane) : State :=
  { s with lanes := s.lanes.modify n f }

def setNode (s : State) (slot : Fin 64) (n : Node) : State := { s with nodes := s.nodes.set slot n }

/-- Agreement after an event that took a lane from `before` to `after` while aisle hold stayed as it
is (R66, R68). -/
def judge (s : State) (before after : Lane) : Lane :=
  Lane.judge s.notice.groups s.now s.holding s.holding before after

/-- The lane the cell is captured by, if any: the cell assignment (R19). -/
def assignment (s : State) (r : CellRef) : Option (Fin 128) :=
  (List.finRange 128).find? (fun n => (s.lanes.get n).cells.any (fun c => c.ref == r))

end State

/-- The segment of a slot: slot 32 is the first of segment B (00_scope.md, Table 1 note 1). -/
def segmentOf (slot : Fin 64) : Segment := if slot.val < 32 then .a else .b

/-- The slots of a segment in slot order. -/
def slotsOf (g : Segment) : List (Fin 64) := (List.finRange 64).filter (fun i => segmentOf i == g)

/-- The first occupied slot of the segment numbered `low` or above (R107). -/
def Image.occupiedFrom (image : Image) (g : Segment) (low : Nat) : Option (Fin 64) :=
  (slotsOf g).find? (fun i => low ≤ i.val && (image.sweep.get i).occupied)

/-- The occupied slot of the segment at the address: a relay's node (6.5). -/
def Image.slotAt (image : Image) (g : Segment) (address : BitVec 6) : Option (Fin 64) :=
  (slotsOf g).find? (fun i =>
    (image.sweep.get i).occupied && (image.sweep.get i).address == address)

/-! ### Clock values (R149) -/

/-- The clock reaches the deadline. -/
def reached (now deadline : Clock) : Bool := 0 ≤ (now - deadline).toInt

/-- Ms until the clock reaches the deadline; 0 if it has. -/
def remaining (now deadline : Clock) : Nat :=
  if reached now deadline then 0 else (deadline - now).toNat

/-- `a` is earlier than `b`. -/
def earlier (a b : Clock) : Bool := (a - b).toInt < 0

/-- A fault or drop count raised by one, staying at its ceiling (R137, R141). -/
def bump (n : Nat) : Nat := min Config.countCeiling (n + 1)

/-! ### The passing of time (R149, log 3, log 11) -/

def Beacon.elapse (d : Nat) : Beacon → Beacon
  | .off => .off
  | .steady => .steady
  | .flashing high e => .flashing high (e + d)

def KeyState.elapse (d : Nat) : KeyState → KeyState
  | .idle => .idle
  | .pressed e => .pressed (e + d)
  | .long => .long

def Stage.elapse (d : Nat) : Stage → Stage
  | .window e length => .window (e + d) length
  | .waiting => .waiting
  | .sending => .sending
  | .receiving => .receiving

def Visit.elapse (d : Nat) (v : Visit) : Visit := { v with stage := v.stage.elapse d }

def SweepEngine.elapse (d : Nat) (e : SweepEngine) : SweepEngine :=
  { e with sinceStart := e.sinceStart + d, visit := e.visit.map (Visit.elapse d) }

def NoticeUnit.elapse (d : Nat) (u : NoticeUnit) : NoticeUnit :=
  { u with
    spacing := u.spacing.map (· + d)
    beacons := u.beacons.map (Beacon.elapse d)
    debounce := u.debounce.map (· + d)
    key := u.key.elapse d }

/-- `d` ms pass: the station clock advances, and so does every ms count of a block (R149). Nothing
acts: what acts at a moment is a command of its own. -/
def State.elapse (s : State) (d : Nat) : State :=
  { s with
    backbone := { s.backbone with clock := s.backbone.clock + BitVec.ofNat 32 d }
    notice := s.notice.elapse d
    sweepA := s.sweepA.elapse d
    sweepB := s.sweepB.elapse d }

end Sys2Proof.Machine
end

