-- ==== Sys2Proof/Machine/Notices.lean ====
section
/-! DEFINITION. The Notice Unit (chapter 5): due subjects, the notice queue and the deferred set,
taking a notice, the beacons, aisle hold. -/

namespace Sys2Proof.Machine

/-! ### Subjects (5.2) -/

/-- The subject number: a lane's number, or 128 + slot. -/
def Subject.number : Subject → Nat
  | .lane n => n.val
  | .node slot => 128 + slot.val

/-- All subjects in subject order. -/
def Subject.all : List Subject :=
  (List.finRange 128).map Subject.lane ++ (List.finRange 64).map Subject.node

namespace State

/-- The subject has a pending kind. -/
def kindPending (s : State) : Subject → Bool
  | .lane n => (s.lanes.get n).kinds.any
  | .node slot => (s.nodes.get slot).statePending

def isDue (s : State) : Subject → Bool
  | .lane n => (s.lanes.get n).due
  | .node slot => (s.nodes.get slot).due

def dueSince (s : State) : Subject → Clock
  | .lane n => (s.lanes.get n).dueSince
  | .node slot => (s.nodes.get slot).dueSince

/-- Current priority, read at each choice (R86). -/
def priority (s : State) : Subject → Nat
  | .lane n => (s.notice.groups.get (s.lanes.get n).config.group).priority
  | .node _ => s.mgmt.settings.nodePriority

/-! ### Choosing (R90) -/

/-- Earliest due since, then lowest subject number. -/
def dueBefore (s : State) (a b : Subject) : Bool :=
  if s.dueSince a = s.dueSince b then a.number < b.number else earlier (s.dueSince a) (s.dueSince b)

/-- PRIORITY order: highest current priority first. -/
def ahead (s : State) (a b : Subject) : Bool :=
  if s.priority a = s.priority b then s.dueBefore a b else s.priority b < s.priority a

end State

/-- The item of a list that is ahead of those met before it (log 12). -/
def best {α : Type} (ahead : α → α → Bool) : List α → Option α
  | [] => none
  | x :: xs => some (xs.foldl (fun m y => if ahead y m then y else m) x)

namespace State

/-- The deferred subject an admission takes (R90). -/
def nextDeferred (s : State) : Option Subject :=
  match s.mgmt.settings.queueOrder with
  | .priority => best s.ahead s.notice.deferred
  | .arrival => best s.dueBefore s.notice.deferred

/-- The queue entry a take removes (R90). -/
def nextEntry (s : State) : Option QueueEntry :=
  match s.mgmt.settings.queueOrder with
  | .priority => best (fun a b => s.ahead a.subject b.subject) s.notice.queue
  | .arrival => best (fun a b => a.number < b.number) s.notice.queue

/-! ### The queue and the deferred set (R88, R89) -/

/-- The subject joins the queue with the next admission number (R88). -/
def enqueue (s : State) (x : Subject) : State :=
  { s with notice := { s.notice with
      queue := s.notice.queue ++ [⟨x, s.notice.nextAdmission⟩]
      nextAdmission := s.notice.nextAdmission + 1
      deferred := s.notice.deferred.filter (· != x) } }

/-- Admission from the deferred set until the queue is full or the set empty, at most `fuel` times
(R89). -/
def admitUpTo (s : State) : Nat → State
  | 0 => s
  | fuel + 1 =>
    if s.notice.queue.length < Config.noticeQueueSize then
      match s.nextDeferred with
      | some x => (s.enqueue x).admitUpTo fuel
      | none => s
    else s

/-- Admission from the deferred set (R89). -/
def admitDeferred (s : State) : State := s.admitUpTo s.notice.deferred.length

/-- A subject put in a set of subjects kept in rising order. -/
def insertSubject (x : Subject) : List Subject → List Subject
  | [] => [x]
  | y :: ys =>
    if x.number < y.number then x :: y :: ys
    else if x = y then y :: ys
    else y :: insertSubject x ys

/-- A subject has become due: admitted if the queue has room, deferred otherwise (R85). -/
def joinQueue (s : State) (x : Subject) : State :=
  if s.notice.queue.length < Config.noticeQueueSize then s.enqueue x
  else { s with notice := { s.notice with deferred := insertSubject x s.notice.deferred } }

/-- The subjects leave the queue or the deferred set; a departure from the queue is followed by
admission (R85, R89). -/
def leaveQueue (s : State) (xs : List Subject) : State :=
  let queue := s.notice.queue.filter (fun e => !xs.contains e.subject)
  let deferred := s.notice.deferred.filter (fun x => !xs.contains x)
  let s' := { s with notice := { s.notice with queue := queue, deferred := deferred } }
  if queue.length < s.notice.queue.length then s'.admitDeferred else s'

end State

/-! ### One event (R85) -/

/-- Notice due and due since of a lane after an event, from its kinds before it (R85). -/
def Lane.settleDue (now : Clock) (before after : Lane) : Lane :=
  if !before.kinds.any && after.kinds.any then { after with due := true, dueSince := now }
  else if before.kinds.any && !after.kinds.any then { after with due := false }
  else after

/-- The same for a node record. -/
def Node.settleDue (now : Clock) (before after : Node) : Node :=
  if !before.statePending && after.statePending then { after with due := true, dueSince := now }
  else if before.statePending && !after.statePending then { after with due := false }
  else after

namespace State

/-- The Notice Unit acts on every subject once for the event that took the machine from `before` to
`after`: those whose kinds became empty leave, then those whose kinds became non-empty join in subject
order (R85; the leaving before the joining: log 9). A command is one event: a node that step 1 of R112 makes
due joins behind the lanes that step 4 makes due, by subject order, where R112 and R131 complete step 1
before step 4 (DESIGN CHOICE, log 27, unsafe). -/
def settleNotices (before after : State) : State :=
  let leaving := Subject.all.filter (fun x => before.kindPending x && !after.kindPending x)
  let joining := Subject.all.filter (fun x => !before.kindPending x && after.kindPending x)
  let s := { after with
    lanes := Table.zipWith (Lane.settleDue after.now) before.lanes after.lanes
    nodes := Table.zipWith (Node.settleDue after.now) before.nodes after.nodes }
  joining.foldl State.joinQueue (s.leaveQueue leaving)

/-! ### Beacons (R96) -/

/-- The group priorities of the lanes that demand the beacon. -/
def demands (s : State) (b : Fin 4) : List Nat :=
  (s.lanes.toList.filter (fun l =>
    l.beaconLit && (s.notice.groups.get l.config.group).beacon == b)).map
      (fun l => (s.notice.groups.get l.config.group).priority)

end State

/-- A beacon output after demand and pattern are decided again from the priorities that demand it; a
flashing output that goes on flashing keeps its rhythm (R96). -/
def Beacon.decide (output : NoticeOutput) (demand : List Nat) (b : Beacon) : Beacon :=
  if output = .held || demand.isEmpty then .off
  else if demand.any (4 ≤ ·) then
    match b with
    | .flashing high e => .flashing high e
    | .off | .steady => .flashing true 0
  else .steady

/-- The level of a BCN line (R96). -/
def Beacon.line : Beacon → Bool
  | .off => false
  | .steady => true
  | .flashing high _ => high

namespace State

/-- Demand and pattern follow every change at the moment of the change (R96). -/
def refreshBeacons (s : State) : State :=
  { s with notice := { s.notice with
      beacons := Table.build (fun b => (s.notice.beacons.get b).decide s.notice.output (s.demands b)) } }

/-- What closes an event that may touch kinds, groups or lit lanes: notices (R85), then beacons (R96).
The manual gives no order among the lanes that one step of an event touches, so the beacons follow them
together (DESIGN CHOICE, log 26, unsafe). A READING's bay key step is followed on its own
(`goodReading`). -/
def close (before after : State) : State := (settleNotices before after).refreshBeacons

/-! ### Taking a notice (R91 to R93) -/

/-- The spacing has elapsed (R91). -/
def spacingElapsed (s : State) : Bool :=
  match s.notice.spacing with
  | none => true
  | some e => s.mgmt.settings.spacing ≤ e

/-- The Notice Unit offers a notice (R91, R95). -/
def offersNotice (s : State) : Bool :=
  s.notice.output == .on && s.spacingElapsed && !s.notice.queue.isEmpty && s.backbone.address.isSome

/-- The payload of a NOTICE about a subject (R93, Table 8-7). -/
def noticePayload (s : State) : Subject → List Byte
  | .lane n =>
    let l := s.lanes.get n
    be4 s.now.toNat ++ [byteOf n.val, byteOf l.kinds.bits, byteOf l.config.group.val]
      ++ be4 l.config.product.toNat ++ [byteOf l.state.code] ++ be2 l.count
      ++ beInt4 (l.settled.getD 0)
      ++ [byteOf l.band.code, byteOf l.refBand.code, byteOf l.flagsA, byteOf (packBits [l.raiseTime.isSome])]
      ++ clockBytes l.raiseTime ++ [byteOf (zeroResultCode l.zeroResult)]
  | .node slot =>
    let n := s.nodes.get slot
    be4 s.now.toNat
      ++ [byteOf (128 + slot.val), byteOf n.kindBits, byteOf (segmentOf slot).code,
        (s.active.sweep.get slot).address.setWidth 8, byteOf n.state.code, byteOf n.score,
        byteOf n.missRun, byteOf n.probeRun, byteOf n.noticeFlags]

/-- Step 3 of R92 on the subject's record. -/
def clearKinds (s : State) : Subject → State
  | .lane n => s.modifyLane n (fun l =>
      { l with
        kinds := .none
        due := false
        alertAnnounced := l.alertAnnounced || l.kinds.band })
  | .node slot => s.setNode slot { s.nodes.get slot with statePending := false, due := false }

/-- The notice source is taken (R92): the payload sent, and the state after. -/
def takeNotice (s : State) : Option (List Byte × State) :=
  match s.nextEntry with
  | none => none
  | some e =>
    let s' := s.clearKinds e.subject
    let s' := { s' with notice := { s'.notice with
      queue := s'.notice.queue.filter (fun x => x.subject != e.subject)
      spacing := some 0 } }
    some (s.noticePayload e.subject, s'.admitDeferred)

/-! ### Aisle hold and the aisle key (5.7, 5.8) -/

/-- Aisle hold starts, or its deadline is restarted (R100). -/
def startHold (s : State) : State :=
  { s with notice := { s.notice with
      holdDeadline := some (s.now + BitVec.ofNat 32 (s.mgmt.settings.holdLimit * 60000)) } }

/-- Aisle hold, if in force, ends with the freeze-end evaluations of R73 (R101). -/
def endHold (s : State) : State :=
  if s.holding then
    let s' := { s with
      notice := { s.notice with holdDeadline := none }
      lanes := s.lanes.map (fun l => Lane.judge s.notice.groups s.now true false l l) }
    close s s'
  else s

/-- Aisle hold toggles (R98). -/
def toggleHold (s : State) : State := if s.holding then s.endHold else s.startHold

/-- A short press clears beacon lit on every lane (R77, R98). -/
def shortPress (s : State) : State :=
  (s.mapLanes (fun l => { l with beaconLit := false })).refreshBeacons

/-- The debounced key is pressed (R98). -/
def keyDown (s : State) : Bool := s.notice.key != .idle

end State

end Sys2Proof.Machine
end

