-- ==== Sys2Proof/Machine/Health.lean ====
section
/-! DEFINITION. Node health (chapter 7): judging an outcome, cut-off and recovery, what the monitor
reports, RELEASE NODE, and the reset of a record. -/

namespace Sys2Proof.Machine

/-- The class of an outcome as the monitor sees it (R123). -/
inductive VisitOutcome where
  | good | corrupt | malformed | missed
  deriving DecidableEq, Repr

/-- An outcome other than good adds its kind to errors-seen (R123). -/
def Node.seeError (o : VisitOutcome) (n : Node) : Node :=
  match o with
  | .good => n
  | .corrupt => { n with corruptSeen := true }
  | .malformed => { n with malformedSeen := true }
  | .missed => { n with missedSeen := true }

/-- The values of a return from CUT_OFF to ACTIVE (R129). -/
def Node.returnActive (n : Node) : Node :=
  { n with state := .active, score := 0, missRun := 0, probeRun := 0, releaseGranted := false }

/-- Entry to CUT_OFF (R128); `autoRecover` is the slot's flag in the active sweep list. -/
def Node.cutOff (autoRecover : Bool) (n : Node) : Node :=
  { n with
    state := .cutOff
    score := 0
    probeRun := 0
    recovery := if autoRecover then .auto else .release
    releaseGranted := false }

/-- A good outcome at a node that is not CUT_OFF (R124). -/
def Node.good (n : Node) : Node :=
  let score := n.score - 1
  { n with
    score := score
    missRun := 0
    state := if n.state = .active || score ≤ 127 then .active else .doubtful }

/-- A corrupt or malformed outcome at a node that is not CUT_OFF (R125). -/
def Node.bad (autoRecover : Bool) (n : Node) : Node :=
  if Config.runCeiling < n.score + 8 then n.cutOff autoRecover
  else { n with
    score := n.score + 8
    state := if n.state = .active && 128 ≤ n.score + 8 then .doubtful else n.state }

/-- A missed outcome at a node that is not CUT_OFF (R126). -/
def Node.miss (absentLimit : Nat) (n : Node) : Node :=
  let score := if n.score < 128 then n.score + 8 else n.score
  let run := min Config.runCeiling (n.missRun + 1)
  { n with
    score := score
    missRun := run
    state :=
      if n.state = .absent then .absent
      else if absentLimit ≤ run then .absent
      else if n.state = .active && 128 ≤ score then .doubtful
      else n.state }

/-- An outcome at a node that is CUT_OFF (R129). -/
def Node.probe (o : VisitOutcome) (n : Node) : Node :=
  match o with
  | .good =>
    if n.probeRun < Config.probeRunLength then
      let n' := { n with probeRun := n.probeRun + 1 }
      if n'.probeRun = Config.probeRunLength && (n.recovery == .auto || n.releaseGranted) then
        n'.returnActive
      else n'
    else n
  | .corrupt | .malformed | .missed => { n with probeRun := 0 }

/-- An outcome applied to a record (R123 to R129). -/
def Node.judge (absentLimit : Nat) (autoRecover : Bool) (o : VisitOutcome) (n : Node) : Node :=
  let n := n.seeError o
  if n.state = .cutOff then n.probe o
  else match o with
    | .good => n.good
    | .corrupt | .malformed => n.bad autoRecover
    | .missed => n.miss absentLimit

/-- The reset values of a record (R133): its kinds are emptied; its due since is not named there and
is kept (log 10). Notice due follows the kinds when the event closes. -/
def Node.reset (n : Node) : Node :=
  { n with
    state := .active
    score := 0
    missRun := 0
    probeRun := 0
    recovery := .auto
    releaseGranted := false
    corruptSeen := false
    malformedSeen := false
    missedSeen := false
    statePending := false }

/-- The relay is open (6.5). -/
def Relay.isOpen (r : Relay) : Bool := r.outcome.isNone

/-- Every open relay addressed there ends with NO_NODE (R118). -/
def loseRelays (address : BitVec 6) (rs : List Relay) : List Relay :=
  rs.map (fun r => if r.isOpen && r.address == address then { r with outcome := some .noNode } else r)

namespace State

/-- The record of a slot becomes `after`, and a change of state is reported: STATE is added, the lanes
the node feeds have feed doubtful set again and go BLIND when the node is lost, and its open relays end
then (R131). -/
def reportNode (s : State) (slot : Fin 64) (after : Node) : State :=
  if after.state = (s.nodes.get slot).state then s.setNode slot after
  else
    let nodes := s.nodes.set slot { after with statePending := true }
    let lost := after.state.lost
    let s := { s with
      nodes := nodes
      lanes := s.lanes.map (fun l =>
        if l.fedBy slot then
          s.judge l ((if lost then l.nodeLost else l).setDoubt nodes)
        else l) }
    if lost then
      let g := segmentOf slot
      s.setRelays g (loseRelays (s.active.sweep.get slot).address (s.sweep g).relays)
    else s

/-- The monitor takes an outcome of the slot (R123). -/
def nodeOutcome (s : State) (slot : Fin 64) (o : VisitOutcome) : State :=
  s.reportNode slot ((s.nodes.get slot).judge s.mgmt.settings.absentLimit
    (s.active.sweep.get slot).autoRecover o)

/-- RELEASE NODE on a slot (R130). -/
def releaseNode (s : State) (slot : Fin 64) : State :=
  let n := s.nodes.get slot
  if n.state = .cutOff then
    if n.probeRun = Config.probeRunLength then s.reportNode slot n.returnActive
    else s.setNode slot { n with releaseGranted := true }
  else s

end State

end Sys2Proof.Machine
end

