-- ==== Sys2Proof/Machine/Capture.lean ====
section
/-! DEFINITION. The Capture Unit (chapter 2): conversion, freshness and lane samples; COMMIT resolution
and its completion. -/

namespace Sys2Proof.Machine

/-! ### Conversion and lane samples (2.4) -/

/-- The raw value and the status a READING reports for a cell. -/
structure RawCell where
  raw : Int
  status : CellStatus
  deriving DecidableEq, Repr

/-- A converted value with its stored status (R32). -/
def convert (k : Calibration) (c : RawCell) : CellValue :=
  let g := roundDiv ((c.raw - k.zero) * k.gain) 65536
  { grams := g
    status :=
      match c.status with
      | .valid => if -Config.maxGrams ≤ g && g ≤ Config.maxGrams then .valid else .overload
      | other => other }

/-- The calibration cell that serves cell `k` of a slot: `slot × 4 + k` (R22). -/
def calibrationIndex (r : CellRef) : Fin 256 :=
  ⟨r.slot.val * 4 + r.cell.val, by have := r.slot.isLt; have := r.cell.isLt; omega⟩

/-- A cell of a lane takes its value from a reading of the slot, if the reading carries it (R33). -/
def LaneCell.capture (calibration : Table Calibration 256) (slot : Fin 64) (cells : List RawCell)
    (c : LaneCell) : LaneCell :=
  if c.ref.slot = slot then
    match cells[c.ref.cell.val]? with
    | some raw =>
      { c with fresh := true, value := some (convert (calibration.get (calibrationIndex c.ref)) raw) }
    | none => c
  else c

/-- The sum of a lane's latest cell values (R34). -/
def Lane.sampleSum (l : Lane) : Int := (l.cells.map (fun c => (c.value.map CellValue.grams).getD 0)).sum

/-- Every cell of the sample is VALID (R8). -/
def Lane.sampleValid (l : Lane) : Bool :=
  l.cells.all (fun c => (c.value.map CellValue.status) == some .valid)

/-- The fresh set holds every cell of the list (R34). -/
def Lane.sampleComplete (l : Lane) : Bool := !l.cells.isEmpty && l.cells.all LaneCell.fresh

/-- The reading carries a cell of the lane (R34). -/
def Lane.receives (slot : Fin 64) (cells : List RawCell) (l : Lane) : Bool :=
  l.cells.any (fun c => c.ref.slot == slot && c.ref.cell.val < cells.length)

/-- A reading's cells reach a lane; if they complete its fresh set, the set is emptied and the sample
is handed to the Lane Engine (R33, R34, R8). -/
def Lane.capture (nodes : Table Node 64) (calibration : Table Calibration 256) (slot : Fin 64)
    (cells : List RawCell) (l : Lane) : Lane :=
  if l.receives slot cells then
    let l := { l with cells := l.cells.map (LaneCell.capture calibration slot cells) }
    if l.sampleComplete then
      let sum := l.sampleSum
      let valid := l.sampleValid
      ({ l with cells := l.cells.map (fun c => { c with fresh := false }) } : Lane).takeSample nodes
        sum valid
    else l
  else l

/-- The Capture Unit stores a reading it takes (R31 to R34). -/
def State.capture (s : State) (slot : Fin 64) (cells : List RawCell) : State :=
  s.mapLanes (fun l => s.judge l (l.capture s.nodes s.active.calibration slot cells))

/-! ### Resolution (2.3) -/

/-- A cell matches a valid entry under the mask slot the entry names (R26). -/
def CaptureEntry.matches (masks : Table MaskSlot 4) (segment : Segment) (address : BitVec 6)
    (cell : Fin 4) (e : CaptureEntry) : Bool :=
  let m := masks.get e.mask
  e.valid
    && (!m.compareSegment || segment == e.keySegment)
    && (address &&& m.addressBits) == (e.keyAddress &&& m.addressBits)
    && (!m.compareCell || cell == e.keyCell)

/-- The cells of the occupied positions in resolution order (R27). -/
def Image.cells (image : Image) : List CellRef :=
  (List.finRange 64).flatMap (fun slot =>
    let p := image.sweep.get slot
    if p.occupied then
      ((List.finRange 4).filter (fun k => k.val < p.cellCount)).map (CellRef.mk slot)
    else [])

/-- The lane of the lowest-numbered entry that the cell matches (R27 step 1). -/
def Image.captor (image : Image) (r : CellRef) : Option (Fin 128) :=
  (image.captures.toList.find? (CaptureEntry.matches image.masks (segmentOf r.slot)
    (image.sweep.get r.slot).address r.cell)).map CaptureEntry.lane

/-- Lists and overflow flags under construction. -/
structure Building where
  lists : Table (List CellRef) 128
  overflow : Table Bool 128
  deriving DecidableEq, Repr

/-- One cell is visited (R27 steps 1 to 3). -/
def Building.visit (image : Image) (b : Building) (r : CellRef) : Building :=
  match image.captor r with
  | none => b
  | some n =>
    if (b.lists.get n).length < Config.laneCells then
      { b with lists := b.lists.modify n (· ++ [r]) }
    else { b with overflow := b.overflow.set n true }

/-- A slot is changed: occupied in one list only, or in both with different addresses (R28). -/
def slotChanged (old new : SweepPosition) : Bool :=
  old.occupied != new.occupied || (old.occupied && old.address != new.address)

/-- Resolution over a staged image (R25 to R28). -/
def resolve (staged active : Image) : Resolution :=
  let b := staged.cells.foldl (Building.visit staged) ⟨.const 128 [], .const 128 false⟩
  { lists := b.lists
    overflow := b.overflow
    changed := Table.zipWith slotChanged active.sweep staged.sweep }

/-! ### Completion (R28 to R30) -/

/-- The lane's list is changed: a different reference or order, or a cell of a changed slot (R29). -/
def listChanged (changed : Table Bool 64) (old new : List CellRef) : Bool :=
  old != new || old.any (fun c => changed.get c.slot) || new.any (fun c => changed.get c.slot)

def Lane.refs (l : Lane) : List CellRef := l.cells.map LaneCell.ref

/-- A lane whose list is changed takes the new list (R29 steps 1 to 4). -/
def Lane.install (nodes : Table Node 64) (new : List CellRef) (l : Lane) : Lane :=
  let was := l.bound
  let l := ({ l with cells := new.map (fun r => ⟨r, false, none⟩), window := [] } : Lane).cancelZeroing
  let l :=
    if l.bound then l.enterBound nodes
    else if was then l.enterUnbound
    else l
  l.setDoubt nodes

/-- A lane takes its new capture overflow flag; yes adds CAPTURE (R29). -/
def Lane.takeOverflow (flag : Bool) (l : Lane) : Lane :=
  { l with
    captureOverflow := flag
    kinds := { l.kinds with capture := l.kinds.capture || flag } }

/-- What completion does to a lane (R29). -/
def Lane.complete (nodes : Table Node 64) (changed : Table Bool 64) (new : List CellRef) (flag : Bool)
    (l : Lane) : Lane :=
  (if listChanged changed l.refs new then l.install nodes new else l).takeOverflow flag

namespace State

/-- The slot changes of R28: health reset, relays of the old address ended, sequence forgotten, the
visit marked. -/
def changeSlots (s : State) (changed : Table Bool 64) (old : Image) : State :=
  let lose (g : Segment) (e : SweepEngine) : SweepEngine :=
    { e with
      visit := e.visit.map (fun v => { v with changed := v.changed || changed.get v.slot })
      relays := (slotsOf g).foldl (fun rs slot =>
        if changed.get slot && (old.sweep.get slot).occupied then
          loseRelays (old.sweep.get slot).address rs
        else rs) e.relays }
  { s with
    nodes := Table.zipWith (fun c n => if c then Node.reset n else n) changed s.nodes
    sequences := Table.zipWith (fun c q => if c then none else q) changed s.sequences
    sweepA := lose .a s.sweepA
    sweepB := lose .b s.sweepB }

/-- The completed resolution is installed: the staged image becomes active, then R28, then R29. -/
def installResolution (s : State) (r : Resolution) : State :=
  let s' := { s with active := s.staged }.changeSlots r.changed s.active
  let s' := { s' with
    lanes := Table.build (fun n =>
      let l := s.lanes.get n
      s.judge l (l.complete s'.nodes r.changed (r.lists.get n) (r.overflow.get n))) }
  close s s'

/-- Lanes whose cell list a resolution changes (R30). -/
def lanesChanged (s : State) (r : Resolution) : Nat :=
  (Table.zipWith (fun (l : Lane) new => listChanged r.changed l.refs new) s.lanes r.lists).count id

end State

end Sys2Proof.Machine
end

