-- ==== Sys2Proof/Machine/Sweep.lean ====
section
/-! DEFINITION. The Shelf Sweep Engines (chapter 6): sweeps and visits, the classification of replies,
the steps after a phase, mirrors and relays. -/

namespace Sys2Proof.Machine

/-! ### Shelf frames (Table 8-10) -/

/-- A shelf frame: its bytes and their CRC-8. -/
def shelfFrame (bytes : List Byte) : List Byte := bytes ++ [crc8 bytes]

def pollFrame (address : BitVec 6) : List Byte := shelfFrame [address.setWidth 8, kindPoll]

def relayFrame (address : BitVec 6) (message : List Byte) : List Byte :=
  shelfFrame ([address.setWidth 8, kindRelay, byteOf message.length] ++ message)

/-- A well-formed READING: sequence, key flag and cells. -/
structure Reading where
  sequence : Byte
  key : Bool
  cells : List RawCell
  deriving DecidableEq, Repr

/-- The cells of a READING from byte 5 on; `none` at a status code of no status. -/
def rawCells : List Byte → Option (List RawCell)
  | a :: b :: c :: st :: rest =>
    match CellStatus.ofCode st.toNat, rawCells rest with
    | some status, some cells => some (⟨(BitVec.ofNat 24 (natOf [a, b, c])).toInt, status⟩ :: cells)
    | _, _ => none
  | _ => some []

/-- A reception judged up to its CRC-8, the first two checks of R110. -/
def crcFails (bytes : List Byte) : Bool := bytes.length < 3 || bytes.getLast? != some (crc8 bytes.dropLast)

/-- A poll-phase reply classified: a reading, or the outcome it fails with (R110). -/
def classifyReading (v : Visit) (reception : List Byte) : Except VisitOutcome Reading :=
  let bytes := reception.take Config.shelfCut
  if crcFails bytes then .error .corrupt
  else if bytes.getD 1 0 != kindReading then .error .malformed
  else if bytes.getD 0 0 != v.address.setWidth 8 then .error .malformed
  else if byteAt bytes 4 != v.cellCount then .error .malformed
  else if bytes.length != 6 + 4 * v.cellCount then .error .malformed
  else match rawCells (bytes.drop 5).dropLast with
    | none => .error .malformed
    | some cells => .ok ⟨bytes.getD 2 0, (bytes.getD 3 0).getLsbD 0, cells⟩

/-- A relay-phase reply classified: whether the node accepts, or the outcome it fails with (R117). -/
def classifyAnswer (v : Visit) (reception : List Byte) : Except VisitOutcome Bool :=
  let bytes := reception.take Config.shelfCut
  if crcFails bytes then .error .corrupt
  else if bytes.getD 1 0 != kindRelayAnswer then .error .malformed
  else if bytes.getD 0 0 != v.address.setWidth 8 then .error .malformed
  else if bytes.length != 4 then .error .malformed
  else if bytes.getD 2 0 = 0x01 then .ok true
  else if bytes.getD 2 0 = 0x02 then .ok false
  else .error .malformed

/-! ### Sweeps and visits (6.1, 6.2) -/

/-- The direction line SADIR or SBDIR is at transmit (R108). -/
def SweepEngine.transmitting (e : SweepEngine) : Bool :=
  match e.visit with
  | some v => v.stage == .sending
  | none => false

/-- A frame is about to be sent: it waits while a reception is in progress (R109). -/
def sendStage (e : SweepEngine) : Stage := if e.stray then .waiting else .sending

/-- A visit of the slot begins with its POLL (R108). -/
def beginVisit (e : SweepEngine) (image : Image) (slot : Fin 64) : Visit :=
  let p := image.sweep.get slot
  { slot := slot
    address := p.address
    cellCount := p.cellCount
    mirror := p.mirror
    changed := false
    relay := none
    frame := pollFrame p.address
    stage := sendStage e }

/-- A sweep begins: the timer restarts and the lowest occupied slot is visited; over an empty list the
sweep ends at its start (R105, R107). -/
def SweepEngine.startSweep (image : Image) (g : Segment) (e : SweepEngine) : SweepEngine :=
  { e with
    sinceStart := 0
    timerExpired := false
    visit := (image.occupiedFrom g 0).map (beginVisit e image) }

/-- A visit of `slot` ends: the next occupied slot is visited, or the sweep ends; an owed sweep then
begins at once with sweep-late set (R105, R107). -/
def SweepEngine.endVisit (image : Image) (g : Segment) (slot : Fin 64) (e : SweepEngine) : SweepEngine :=
  match image.occupiedFrom g (slot.val + 1) with
  | some next => { e with visit := some (beginVisit e image next) }
  | none =>
    if e.owed then SweepEngine.startSweep image g { e with owed := false, late := true }
    else { e with visit := none }

/-- The sweep timer expires (R105). -/
def SweepEngine.expire (image : Image) (g : Segment) (e : SweepEngine) : SweepEngine :=
  if e.visit.isSome then { e with owed := true, timerExpired := true }
  else e.startSweep image g

/-- A new sweep period acts on the running timer (R106). -/
def SweepEngine.newPeriod (image : Image) (g : Segment) (old new : Nat) (e : SweepEngine) : SweepEngine :=
  if old != new && !e.timerExpired && new ≤ e.sinceStart then e.expire image g else e

/-! ### Relays (6.5) -/

/-- The oldest open relay for the address (R116). -/
def oldestOpen (address : BitVec 6) (rs : List Relay) : Option Relay :=
  best (fun a b => a.acceptance < b.acceptance)
    (rs.filter (fun r => r.isOpen && r.address == address))

/-- A failed attempt (R117). -/
def Relay.fail (r : Relay) : Relay :=
  if r.failed < 2 then { r with failed := r.failed + 1 }
  else { r with failed := 3, outcome := some .unanswered }

/-- The outcome of a relay phase applied to the relay in delivery (R117). -/
def Relay.answer (o : Except VisitOutcome Bool) (r : Relay) : Relay :=
  match o with
  | .ok true => { r with outcome := some .delivered }
  | .ok false => { r with outcome := some .refused }
  | .error _ => r.fail

/-- The class of a relay phase's outcome for node health (R117, R123). -/
def answerClass : Except VisitOutcome Bool → VisitOutcome
  | .ok _ => .good
  | .error o => o

/-- The payload of a RELAY RESULT (R119, Table 8-7). -/
def Relay.result (g : Segment) (r : Relay) : List Byte :=
  [byteOf g.code, r.address.setWidth 8, byteOf (relayOutcomeCode r.outcome), byteOf r.failed]

/-- The relay source's offer: the ended relay with the lowest acceptance number of both queues (R119). -/
def State.endedRelay (s : State) : Option (Segment × Relay) :=
  best (fun a b => a.2.acceptance < b.2.acceptance)
    ((s.sweepA.relays.filter (fun r => !r.isOpen)).map (Prod.mk .a)
      ++ (s.sweepB.relays.filter (fun r => !r.isOpen)).map (Prod.mk .b))

/-! ### The steps after a phase (R112, R117) -/

/-- The payload of a MIRROR (R114, Table 8-7). -/
def mirrorPayload (now : Clock) (g : Segment) (v : Visit) (r : Reading) : List Byte :=
  be4 now.toNat
    ++ [byteOf v.slot.val, byteOf g.code, v.address.setWidth 8, r.sequence, yesByte r.key,
      byteOf r.cells.length]
    ++ r.cells.flatMap (fun c => be3 (BitVec.ofInt 24 c.raw).toNat ++ [byteOf c.status.code])

namespace State

/-- The visit in progress ends (R107). -/
def endVisit (s : State) (g : Segment) (v : Visit) : State :=
  s.setSweep g ((s.sweep g).endVisit s.active g v.slot)

/-- Step 3 of R112: a bay key event of the slot reaches the lanes its node feeds (R113, R71). -/
def bayKeyEvent (s : State) (slot : Fin 64) : State :=
  s.mapLanes (fun l => if l.fedBy slot then l.bayKey s.now else l)

/-- Step 6 of R112: the oldest open relay for the node is sent in this visit, or the visit ends (R116).
Probes never carry a relay (R129). -/
def relayStep (s : State) (g : Segment) (v : Visit) : State :=
  match oldestOpen v.address (s.sweep g).relays with
  | some r =>
    if (s.nodes.get v.slot).state = .cutOff then s.endVisit g v
    else s.setVisit g (some { v with
      relay := some r.acceptance
      frame := relayFrame v.address r.message
      stage := sendStage (s.sweep g) })
  | none => s.endVisit g v

/-- The steps of R112 for a good poll outcome, each completed before the next begins: the beacons follow
the bay key event before the capture (R96; the lanes that one step touches change together, log 26). -/
def goodReading (s : State) (g : Segment) (v : Visit) (r : Reading) : State :=
  let stale := s.sequences.get v.slot == some r.sequence
  let s := s.nodeOutcome v.slot .good
  let s := { s with sequences := s.sequences.set v.slot (some r.sequence) }
  let usable := (s.nodes.get v.slot).state != .cutOff
  let taken := usable && !stale
  let s := if r.key && usable then (s.bayKeyEvent v.slot).refreshBeacons else s
  let s := if taken then s.capture v.slot r.cells else s
  let s := if taken && v.mirror then
      { s with backbone := { s.backbone with mirror := some (mirrorPayload s.now g v r) } }
    else s
  s.relayStep g v

/-- The end of a poll phase (R112). An outcome of a slot that a COMMIT changed is discarded (R28). -/
def endPoll (s : State) (g : Segment) (v : Visit) (o : Except VisitOutcome Reading) : State :=
  if v.changed then s.endVisit g v
  else match o with
    | .ok r => s.goodReading g v r
    | .error e => (s.nodeOutcome v.slot e).endVisit g v

/-- The relay in delivery takes the outcome of its phase; a DELIVERED relay that disturbs readings
clears the windows of the lanes its node feeds (R117, R6). -/
def answerRelay (s : State) (g : Segment) (v : Visit) (n : Nat) (o : Except VisitOutcome Bool) : State :=
  match (s.sweep g).relays.find? (fun r => r.isOpen && r.acceptance == n) with
  | none => s
  | some r =>
    let s := s.setRelays g ((s.sweep g).relays.map (fun x =>
      if x.isOpen && x.acceptance == n then x.answer o else x))
    if (r.answer o).outcome = some .delivered && r.disturbs then
      s.mapLanes (fun l => if l.fedBy v.slot then l.disturb else l)
    else s

/-- The end of a relay phase: the relay first, then node health, then the end of the visit (R117). -/
def endRelay (s : State) (g : Segment) (v : Visit) (n : Nat) (o : Except VisitOutcome Bool) : State :=
  if v.changed then s.endVisit g v
  else ((s.answerRelay g v n o).nodeOutcome v.slot (answerClass o)).endVisit g v

end State

end Sys2Proof.Machine
end

