-- ==== Sys2Proof/Machine/Requests.lean ====
section
/-! DEFINITION. What each management request does when the engine executes it (9.3 to 9.6 and the owning
rules). `p` is the whole payload, whose length R158 has checked. -/

namespace Sys2Proof.Machine

/-- How a request ends: its result, its reply fields and the state it leaves (R158). -/
structure Answer where
  result : Result
  fields : List Byte
  state : State
  deriving DecidableEq, Repr

/-- A refused request changes nothing in any block (R158). -/
def State.refuse (s : State) (r : Result) : Answer := ⟨r, [], s⟩

/-- A request that completes with DONE and no reply fields. -/
def State.done (s : State) : Answer := ⟨.done, [], s⟩

namespace State

/-- IDENTIFY (R163). An unassigned station executes no request (R145); its address field would be 0. -/
def requestIdentify (s : State) : Answer :=
  ⟨.done, be2 Config.deviceCode ++ be2 (s.backbone.address.getD 0).toNat ++ s.mgmt.settings.bytes, s⟩

/-- The flags of READ STATUS (Table 9-4). -/
def statusFlags (s : State) : Nat :=
  packBits [s.mgmt.requestOverrun, s.mgmt.missedBroadcast, s.sweepA.late, s.sweepB.late,
    s.notice.keyFlag, s.holding, s.notice.output == .held]

/-- The fields of READ STATUS (Table 9-4). -/
def statusFields (s : State) : List Byte :=
  [byteOf s.statusFlags] ++ clockBytes s.notice.holdDeadline ++ be4 s.now.toNat
    ++ be2 s.backbone.buFaults ++ be2 s.backbone.bdFaults
    ++ be2 s.backbone.upDrops ++ be2 s.backbone.downDrops
    ++ [byteOf s.notice.queue.length, byteOf s.notice.deferred.length,
      byteOf s.sweepA.relays.length, byteOf s.sweepB.relays.length, byteOf s.mgmt.intake.length]

/-- What READ STATUS clears once its reply is built (R164, R99, R105, R151, R155). -/
def clearStatus (s : State) : State :=
  { s with
    backbone := { s.backbone with buFaults := 0, bdFaults := 0, upDrops := 0, downDrops := 0 }
    mgmt := { s.mgmt with requestOverrun := false, missedBroadcast := false }
    notice := { s.notice with keyFlag := false }
    sweepA := { s.sweepA with late := false }
    sweepB := { s.sweepB with late := false } }

/-- READ STATUS (R164). -/
def requestReadStatus (s : State) : Answer := ⟨.done, s.statusFields, s.clearStatus⟩

/-- New station settings are stored and act (R162, R87, R106). -/
def storeSettings (s : State) (w : Settings) : State :=
  { s with
    mgmt := { s.mgmt with settings := w }
    sweepA := s.sweepA.newPeriod s.active .a s.mgmt.settings.periodA w.periodA
    sweepB := s.sweepB.newPeriod s.active .b s.mgmt.settings.periodB w.periodB }

/-- WRITE STATION (R162). -/
def requestWriteStation (s : State) (p : List Byte) : Answer :=
  match QueueOrder.ofCode (byteAt p 1) with
  | none => s.refuse .badValue
  | some order =>
    let w := settingsWritten p order
    ⟨if w.clamped = w then .done else .adjusted, [], s.storeSettings w.clamped⟩

/-- NOTICE OUTPUT (R94, R95). -/
def requestNoticeOutput (s : State) (p : List Byte) : Answer :=
  match NoticeOutput.ofCode (byteAt p 1) with
  | none => s.refuse .badValue
  | some o => (({ s with notice := { s.notice with output := o } } : State).refreshBeacons).done

/-- WRITE CAPTURE (R20). -/
def requestWriteCapture (s : State) (p : List Byte) : Answer :=
  match index 64 (byteAt p 1), index 4 (byteAt p 6), index 128 (byteAt p 7) with
  | some entry, some mask, some lane =>
    match Segment.ofCode (byteAt p 3), index 64 (byteAt p 4), index 4 (byteAt p 5) with
    | some segment, some address, some cell =>
      ({ s with staged := { s.staged with
          captures := s.staged.captures.set entry
            { valid := yesAt p 2
              keySegment := segment
              keyAddress := BitVec.ofFin address
              keyCell := cell
              mask := mask
              lane := lane } } } : State).done
    | _, _, _ => s.refuse .badValue
  | _, _, _ => s.refuse .noSuch

/-- WRITE MASK (R21). -/
def requestWriteMask (s : State) (p : List Byte) : Answer :=
  match index 4 (byteAt p 1), index 64 (byteAt p 3) with
  | none, _ => s.refuse .noSuch
  | some _, none => s.refuse .badValue
  | some mask, some bits =>
    ({ s with staged := { s.staged with
        masks := s.staged.masks.set mask
          { compareSegment := yesAt p 2
            addressBits := BitVec.ofFin bits
            compareCell := yesAt p 4 } } } : State).done

/-- WRITE CALIBRATION (R22). -/
def requestWriteCalibration (s : State) (p : List Byte) : Answer :=
  match index 256 (fieldAt p 1 2) with
  | none => s.refuse .noSuch
  | some cell =>
    if fieldAt p 6 2 = 0 then s.refuse .badValue
    else ({ s with staged := { s.staged with
        calibration := s.staged.calibration.set cell
          { zero := int24At p 3, gain := fieldAt p 6 2 } } } : State).done

/-- The slot at position `position` of a segment's sweep list (2.1). -/
def slotAtPosition (g : Segment) (position : Nat) : Option (Fin 64) :=
  if position < 32 then index 64 (match g with | .a => position | .b => 32 + position) else none

/-- The staged list with the records written from position `first` on (R23). -/
def writePositions (sweep : Table SweepPosition 64) (g : Segment) (first : Nat) :
    List SweepPosition → Table SweepPosition 64
  | [] => sweep
  | r :: rest =>
    match slotAtPosition g first with
    | some slot => writePositions (sweep.set slot r) g (first + 1) rest
    | none => sweep

/-- Two occupied positions of the segment's list carry the same address (R23 check 4). -/
def duplicateAddress (sweep : Table SweepPosition 64) (g : Segment) : Bool :=
  !decide ((((slotsOf g).map sweep.get).filter (·.occupied)).map SweepPosition.address).Nodup

/-- LOAD SWEEP LIST (R23). -/
def requestLoadSweepList (s : State) (p : List Byte) : Answer :=
  let records := sweepRecords (p.drop 3)
  let first := byteAt p 2
  match Segment.ofCode (byteAt p 1) with
  | none => s.refuse .badValue
  | some g =>
    if 31 < first + records.length - 1 then s.refuse .noSuch
    else if !records.all SweepPosition.acceptable then s.refuse .badValue
    else
      let sweep := writePositions s.staged.sweep g first records
      if duplicateAddress sweep g then s.refuse .badValue
      else ({ s with staged := { s.staged with sweep := sweep } } : State).done

/-- DISCARD (R24). -/
def requestDiscard (s : State) : Answer := ({ s with staged := s.active } : State).done

/-- WRITE LANE (R1, R11, R12, R64). -/
def requestWriteLane (s : State) (p : List Byte) : Answer :=
  let w := laneWrite p
  match index 128 (byteAt p 1) with
  | none => s.refuse .noSuch
  | some n =>
    if w.unitWeight = 0 then s.refuse .badValue
    else match index 16 w.group with
      | none => s.refuse .noSuch
      | some g =>
        let c := w.stored g
        ⟨if w.exact c then .done else .adjusted, [],
          close s (s.modifyLane n (fun l => s.judge l (l.rewrite s.nodes c)))⟩

end State

/-! ### READ LANE (R161, Table 9-5) -/

/-- Part STATE. -/
def Lane.stateBytes (l : Lane) : List Byte :=
  [byteOf l.state.code, byteOf l.window.length] ++ be2 l.count ++ beInt4 (l.settled.getD 0)
    ++ [byteOf l.band.code, byteOf l.refBand.code, byteOf l.flagsA, byteOf l.flagsB]
    ++ clockBytes l.raiseTime ++ [byteOf l.unfitRun, byteOf l.kinds.bits] ++ be4 l.dueSince.toNat
    ++ [byteOf (zeroResultCode l.zeroResult)] ++ clockBytes l.zeroDeadline
    ++ clockBytes l.replenishDeadline ++ [byteOf l.config.group.val] ++ be4 l.config.product.toNat

/-- One cell of part CELLS. The stored status of a cell without a value is sent as 0, where the manual
gives 0 for the value only (DESIGN CHOICE, log 25, unsafe). -/
def LaneCell.bytes (c : LaneCell) : List Byte :=
  [byteOf c.ref.slot.val, byteOf c.ref.cell.val, byteOf (packBits [c.fresh, c.value.isSome])]
    ++ beInt4 ((c.value.map CellValue.grams).getD 0)
    ++ [byteOf ((c.value.map (fun v => v.status.code)).getD 0)]

/-- Part CELLS. -/
def Lane.cellBytes (l : Lane) : List Byte :=
  byteOf l.cells.length :: l.cells.flatMap LaneCell.bytes

/-- The part a code names. -/
def Lane.part (l : Lane) : Nat → Option (List Byte)
  | 0 => some l.stateBytes
  | 1 => some l.cellBytes
  | 2 => some l.config.bytes
  | _ => none

namespace State

/-- READ LANE (R161). -/
def requestReadLane (s : State) (p : List Byte) : Answer :=
  match index 128 (byteAt p 1) with
  | none => s.refuse .noSuch
  | some n =>
    match (s.lanes.get n).part (byteAt p 2) with
    | none => s.refuse .badValue
    | some fields => ⟨.done, fields, s⟩

/-- ZERO LANE (R13). -/
def requestZeroLane (s : State) (p : List Byte) : Answer :=
  match index 128 (byteAt p 1) with
  | none => s.refuse .noSuch
  | some n =>
    match (s.lanes.get n).state with
    | .unbound => s.refuse .laneUnbound
    | .blind => s.refuse .laneBlind
    | .acquiring | .steady | .moving | .suspect =>
      (s.modifyLane n (Lane.beginZeroing s.now)).done

/-- The pairs of an ACKNOWLEDGE applied in request order (R78, R79). -/
def acknowledgeAll (s : State) (pairs : List (Fin 128 × Band)) : State :=
  pairs.foldl (fun s x => s.modifyLane x.1 (Lane.acknowledge s.holding x.2)) s

/-- ACKNOWLEDGE (R78, R79). -/
def requestAcknowledge (s : State) (p : List Byte) : Answer :=
  match ackCheck (ackPairs (p.drop 1)) with
  | .error r => s.refuse r
  | .ok pairs => (close s (s.acknowledgeAll pairs)).done

/-- A group is stored; if it becomes announcing, its lanes' unannounced alerts are announced (R82 to
R84). -/
def storeGroup (s : State) (n : Fin 16) (g : Group) : State :=
  let s' := { s with notice := { s.notice with groups := s.notice.groups.set n g } }
  if g.announcing && !(s.notice.groups.get n).announcing then
    s'.mapLanes (fun l => if l.config.group = n then l.announce else l)
  else s'

/-- WRITE GROUP (R82 to R84). -/
def requestWriteGroup (s : State) (p : List Byte) : Answer :=
  match index 16 (byteAt p 1) with
  | none => s.refuse .noSuch
  | some n =>
    match index 8 (byteAt p 3), Route.ofCode (byteAt p 4), index 4 (byteAt p 5) with
    | some priority, some route, some beacon =>
      (close s (s.storeGroup n ⟨yesAt p 2, priority.val, route, beacon⟩)).done
    | _, _, _ => s.refuse .badValue

/-- The fields of READ NODE (R132, Table 9-1). -/
def nodeFields (s : State) (slot : Fin 64) : List Byte :=
  let n := s.nodes.get slot
  [byteOf (segmentOf slot).code, (s.active.sweep.get slot).address.setWidth 8, byteOf n.state.code,
    byteOf n.score, byteOf n.missRun, byteOf n.probeRun, byteOf n.readFlags]

/-- READ NODE (R132). -/
def requestReadNode (s : State) (p : List Byte) : Answer :=
  match index 64 (byteAt p 1) with
  | none => s.refuse .noSuch
  | some slot =>
    ⟨.done, s.nodeFields slot, s.setNode slot { s.nodes.get slot with
      corruptSeen := false
      malformedSeen := false
      missedSeen := false }⟩

/-- RELEASE NODE (R130). -/
def requestReleaseNode (s : State) (p : List Byte) : Answer :=
  match index 64 (byteAt p 1) with
  | none => s.refuse .noSuch
  | some slot => (close s (s.releaseNode slot)).done

/-- The outcome of a relay at its acceptance: NO_NODE where its node is missing or lost (R115). -/
def acceptOutcome (s : State) (g : Segment) (address : BitVec 6) : Option RelayOutcome :=
  match s.active.slotAt g address with
  | none => some .noNode
  | some slot => if (s.nodes.get slot).state.lost then some .noNode else none

/-- RELAY (R115); `tag` is the MANAGE frame's. -/
def requestRelay (s : State) (tag : Byte) (p : List Byte) : Answer :=
  let message := p.drop 4
  if message.length < 1 || 16 < message.length then s.refuse .badLength
  else match Segment.ofCode (byteAt p 1) with
    | none => s.refuse .badValue
    | some g =>
      if byteAt p 2 < 1 || 62 < byteAt p 2 then s.refuse .badValue
      else if Config.relayQueueSize ≤ (s.sweep g).relays.length then s.refuse .queueFull
      else
        let address := BitVec.ofNat 6 (byteAt p 2)
        let r : Relay :=
          { acceptance := s.nextAcceptance
            tag := tag
            address := address
            disturbs := yesAt p 3
            message := message
            failed := 0
            outcome := s.acceptOutcome g address }
        ({ s.setRelays g ((s.sweep g).relays ++ [r]) with
            nextAcceptance := s.nextAcceptance + 1 } : State).done

/-- AISLE HOLD (R100). -/
def requestAisleHold (s : State) : Answer := s.startHold.done

/-- AISLE RELEASE (R101). -/
def requestAisleRelease (s : State) : Answer := s.endHold.done

/-- COMMIT is taken: resolution begins over the staged image (R25, R156). -/
def beginCommit (s : State) (tag : Byte) : State :=
  { s with mgmt := { s.mgmt with engine := .committing tag (resolve s.staged s.active) } }

/-- RESTART is taken: the engine waits for its reply to leave (R166). -/
def beginRestart (s : State) : State := { s with mgmt := { s.mgmt with engine := .restarting } }

end State

end Sys2Proof.Machine
end

