-- ==== Sys2Proof/Machine/Management.lean ====
section
/-! DEFINITION. The Management Engine (9.2): delivery to the intake FIFO, the take of requests, and the
reply slot. -/

namespace Sys2Proof.Machine

namespace State

/-- A REPLY is placed in the reply slot (R158, R159; Table 8-7). -/
def putReply (s : State) (tag code : Byte) (r : Result) (fields : List Byte) : State :=
  { s with mgmt := { s.mgmt with reply := some ⟨tag, code :: byteOf r.code :: fields⟩ } }

/-- The answer of a unicast request: its effects and its REPLY (R156). -/
def reply (tag : Byte) (code : RequestCode) (a : Answer) : State :=
  a.state.putReply tag code.code a.result a.fields

/-- The checks and the effect of an immediate request (R160, R161 to R165). COMMIT and RESTART are not
immediate and are executed by `executeUnicast`. -/
def perform (s : State) (code : RequestCode) (tag : Byte) (p : List Byte) : Answer :=
  match code with
  | .identify => s.requestIdentify
  | .readStatus => s.requestReadStatus
  | .writeStation => s.requestWriteStation p
  | .noticeOutput => s.requestNoticeOutput p
  | .writeCapture => s.requestWriteCapture p
  | .writeMask => s.requestWriteMask p
  | .writeCalibration => s.requestWriteCalibration p
  | .loadSweepList => s.requestLoadSweepList p
  | .commit => (s.beginCommit tag).done
  | .discard => s.requestDiscard
  | .writeLane => s.requestWriteLane p
  | .readLane => s.requestReadLane p
  | .zeroLane => s.requestZeroLane p
  | .acknowledge => s.requestAcknowledge p
  | .writeGroup => s.requestWriteGroup p
  | .readNode => s.requestReadNode p
  | .releaseNode => s.requestReleaseNode p
  | .relay => s.requestRelay tag p
  | .aisleHold => s.requestAisleHold
  | .aisleRelease => s.requestAisleRelease
  | .restart => s.beginRestart.done

/-- The length check, then the owning rule (R158 steps 3 and 4). -/
def answer (s : State) (code : RequestCode) (tag : Byte) (p : List Byte) : Answer :=
  if code.fits p.length then s.perform code tag p else s.refuse .badLength

/-- A unicast request is executed and answered (R156, R158). A COMMIT that begins resolution is
answered at its completion (R30). -/
def executeUnicast (s : State) (tag : Byte) (p : List Byte) : State :=
  match p with
  | [] => s.putReply tag 0x00 .badLength []
  | c :: _ =>
    match RequestCode.ofByte c with
    | none => s.putReply tag c .noSuch []
    | some code =>
      if code = .commit && code.fits p.length then s.beginCommit tag
      else reply tag code (s.answer code tag p)

/-- A broadcast request: the four accepted codes are executed without reply, every other is discarded
(R157). -/
def executeBroadcast (s : State) (tag : Byte) (p : List Byte) : State :=
  match p with
  | [] => s
  | c :: _ =>
    match RequestCode.ofByte c with
    | none => s
    | some code => if code.broadcastable then (s.answer code tag p).state else s

/-- The engine executes a request it has taken. -/
def execute (s : State) (r : Request) : State :=
  if r.broadcast then s.executeBroadcast r.tag r.payload else s.executeUnicast r.tag r.payload

/-- The engine may take a request: IDLE, with the reply slot empty (R156). -/
def ready (s : State) : Bool :=
  (match s.mgmt.engine with
    | .idle => true
    | .committing _ _ | .restarting => false) && s.mgmt.reply.isNone

/-- The engine takes requests while it may, at most `fuel` of them (R156). -/
def takeUpTo (s : State) : Nat → State
  | 0 => s
  | fuel + 1 =>
    if s.ready then
      match s.mgmt.intake with
      | [] => s
      | r :: rest =>
        (({ s with mgmt := { s.mgmt with intake := rest } } : State).execute r).takeUpTo fuel
    else s

/-- The engine takes requests in order of delivery until it must wait (R156). -/
def takeRequests (s : State) : State := s.takeUpTo s.mgmt.intake.length

/-- A request is delivered: it joins the intake FIFO, or is dropped with its flag set when the FIFO is
full; then the engine takes what it may (R154 to R156). -/
def deliver (s : State) (r : Request) : State :=
  if s.mgmt.intake.length < Config.intakeSize then
    ({ s with mgmt := { s.mgmt with intake := s.mgmt.intake ++ [r] } } : State).takeRequests
  else
    { s with mgmt := { s.mgmt with
        requestOverrun := s.mgmt.requestOverrun || !r.broadcast
        missedBroadcast := s.mgmt.missedBroadcast || r.broadcast } }

/-- A request command: the request is delivered to this station's engine; an unassigned station has no
request delivered (R145, R154, log 1). -/
def submit (s : State) (r : Request) : State :=
  if s.backbone.address.isSome then s.deliver r else s

end State

end Sys2Proof.Machine
end

