-- ==== Sys2Proof/Machine/Starts.lean ====
section
/-! DEFINITION. Cold start and warm start (R17, R18, R35, R36, R102 to R104, R120 to R122, R134, R135,
R152, R153, R167, R168). -/

namespace Sys2Proof.Machine

/-- A reception is in progress on the segment line. After a start it belongs to no phase (R122). -/
def SweepEngine.receiving (e : SweepEngine) : Bool :=
  e.stray || (match e.visit with
    | some v => v.stage == .receiving
    | none => false)

/-- A sweep engine at either start: the values are the same, and what the line carries goes on
(R120 to R122). -/
def SweepEngine.restart (e : SweepEngine) : SweepEngine := { SweepEngine.cold with stray := e.receiving }

namespace State

/-- Cold start: every block at its cold start values. The levels outside the part, AKEY and the shelf
lines, are not the part's to reset; a low AKEY begins a debounce (R97). -/
def coldStart (s : State) : State :=
  { State.reset with
    pending := s.pending
    notice := { NoticeUnit.cold with
      akeyLow := s.notice.akeyLow
      debounce := if s.notice.akeyLow then some 0 else none }
    sweepA := s.sweepA.restart
    sweepB := s.sweepB.restart }

/-- The lanes at warm start (R18): a lane made due by the ZERO kind of a cancelled zeroing is due since
now. -/
def warmLane (s : State) (l : Lane) : Lane := Lane.settleDue s.now l l.warm

/-- The Notice Unit at warm start, before the queue is rebuilt (R103). -/
def warmNotice (u : NoticeUnit) : NoticeUnit :=
  { u with
    queue := []
    deferred := []
    nextAdmission := 0
    spacing := none
    beacons := .const 4 .off
    debounce := if u.akeyLow then some 0 else none
    key := .idle
    keyFlag := false
    holdDeadline := none }

/-- The Backbone Switch at warm start (R153). -/
def warmBackbone (b : Backbone) : Backbone :=
  { b with
    upFifo := []
    downFifo := []
    streak := 0
    mirror := none
    buFaults := 0
    bdFaults := 0
    upDrops := 0
    downDrops := 0 }

/-- The Management Engine at warm start (R167). -/
def warmManagement (m : Management) : Management :=
  { m with
    intake := []
    reply := none
    engine := .idle
    requestOverrun := false
    missedBroadcast := false }

/-- The queue is rebuilt from the due lanes, each chosen by the queue order; the rest are deferred
(R104). -/
def rebuildQueue (s : State) : State :=
  let due := (List.finRange 128).filter (fun n => (s.lanes.get n).due)
  ({ s with notice := { s.notice with deferred := due.map Subject.lane } } : State).admitDeferred

/-- Warm start (R167). -/
def warmStart (s : State) : State :=
  (({ s with
    backbone := warmBackbone s.backbone
    mgmt := warmManagement s.mgmt
    notice := warmNotice s.notice
    lanes := s.lanes.map s.warmLane
    nodes := s.nodes.map (fun n => { n.reset with due := false })
    sweepA := s.sweepA.restart
    sweepB := s.sweepB.restart
    sequences := .const 64 none
    nextAcceptance := 0 } : State).rebuildQueue).refreshBeacons

end State

end Sys2Proof.Machine
end

