-- ==== Sys2Proof/Machine/Switch.lean ====
section
/-! DEFINITION. The Backbone Switch (chapter 8): frames and their checks, routing, enumeration, the
station clock, the upstream arbiter. -/

namespace Sys2Proof.Machine

/-! ### Frames (Table 8-5, R137) -/

/-- The bytes of a frame before its CRC-16. -/
def Frame.body (f : Frame) : List Byte :=
  f.kind :: be2 f.destination.toNat ++ be2 f.source.toNat
    ++ [f.tag, byteOf f.payload.length] ++ f.payload

/-- The bytes a transmitter sends. -/
def Frame.encode (f : Frame) : List Byte := f.body ++ be2 (crc16 f.body).toNat

/-- The frame of a reception, or `none` where R137 rejects it: size, length field, their agreement,
CRC. -/
def Frame.decode (bytes : List Byte) : Option Frame :=
  let body := bytes.dropLast.dropLast
  if bytes.length < 9 || Config.backboneCut ≤ bytes.length then none
  else if Config.maxPayload < byteAt bytes 6 then none
  else if bytes.length != 9 + byteAt bytes 6 then none
  else if bytes.drop (bytes.length - 2) != be2 (crc16 body).toNat then none
  else some
    { kind := bytes.getD 0 0
      destination := BitVec.ofNat 16 (fieldAt bytes 1 2)
      source := BitVec.ofNat 16 (fieldAt bytes 3 2)
      tag := bytes.getD 5 0
      payload := body.drop 7 }

namespace State

/-! ### Forward FIFOs and counts (R137, R141) -/

def buFault (s : State) : State :=
  { s with backbone := { s.backbone with buFaults := bump s.backbone.buFaults } }

def bdFault (s : State) : State :=
  { s with backbone := { s.backbone with bdFaults := bump s.backbone.bdFaults } }

/-- A frame joins the down FIFO, or is dropped and counted (R141). -/
def forwardDown (s : State) (f : Frame) : State :=
  if s.backbone.downFifo.length < Config.forwardFifoSize then
    { s with backbone := { s.backbone with downFifo := s.backbone.downFifo ++ [f] } }
  else { s with backbone := { s.backbone with downDrops := bump s.backbone.downDrops } }

/-- A frame joins the up FIFO, or is dropped and counted (R141). -/
def forwardUp (s : State) (f : Frame) : State :=
  if s.backbone.upFifo.length < Config.forwardFifoSize then
    { s with backbone := { s.backbone with upFifo := s.backbone.upFifo ++ [f] } }
  else { s with backbone := { s.backbone with upDrops := bump s.backbone.upDrops } }

/-! ### The station clock (R149, R150) -/

/-- The deadlines of a lane that the clock has reached are taken: zeroing ends with TIMEOUT (R15) and
the replenish deadline clears (R72). -/
def takeDeadlines (now : Clock) (l : Lane) : Lane :=
  let l := match l.zeroDeadline with
    | some d => if reached now d then l.endZeroing .timeout else l
    | none => l
  match l.replenishDeadline with
  | some d => if reached now d then { l with replenishDeadline := none } else l
  | none => l

/-- The hold deadline is taken if the clock has reached it (R101). -/
def takeHold (now : Clock) (hold : Option Clock) : Option Clock :=
  match hold with
  | some d => if reached now d then none else some d
  | none => none

/-- The station clock is set and every deadline is judged against the new value (R150). -/
def setClock (s : State) (value : Clock) : State :=
  if value = s.now then s
  else
    let hold := takeHold value s.notice.holdDeadline
    let s' := { s with
      backbone := { s.backbone with clock := value }
      notice := { s.notice with holdDeadline := hold }
      lanes := s.lanes.map (fun l =>
        Lane.judge s.notice.groups value s.holding hold.isSome l (takeDeadlines value l)) }
    close s s'

/-! ### Routing at BU (R138, R139, R145 to R148) -/

/-- The 16-bit `next` of an ENUMERATE. -/
def enumerateNext (f : Frame) : Nat := natOf f.payload

/-- An ENUMERATE with a new next field. -/
def withNext (f : Frame) (n : Nat) : Frame := { f with payload := be2 n }

/-- A well-formed ENUMERATE for all stations (R139). -/
def isEnumerate (f : Frame) : Bool :=
  f.destination == allStations && f.kind == kindEnumerate && f.payload.length == 2

/-- A frame at an unassigned station (R145, R147). A TIME or ENUMERATE of a wrong length counts no fault
there: R139 counts one, and R145 excludes faults by kind or destination and says nothing of the length
(DESIGN CHOICE, log 28, unsafe). -/
def routeUnassigned (s : State) (f : Frame) : State :=
  if isEnumerate f then
    let next := enumerateNext f
    if 1 ≤ next && next ≤ 999 then
      ({ s with backbone := { s.backbone with address := some (BitVec.ofNat 16 next) } } : State).forwardDown
        (withNext f (if next = 999 then 0 else next + 1))
    else s.forwardDown f
  else s.forwardDown f

/-- A frame for this station (R138, R139). -/
def routeOwn (s : State) (f : Frame) : State :=
  if f.kind = kindManage then s.deliver ⟨f.tag, false, f.payload⟩
  else if f.kind = kindTime then
    if f.payload.length = 4 then s.setClock (BitVec.ofNat 32 (natOf f.payload)) else s.buFault
  else s.buFault

/-- A frame for all stations at an assigned station (R138, R139, R148). -/
def routeAll (s : State) (address : BitVec 16) (f : Frame) : State :=
  if f.kind = kindManage then (s.deliver ⟨f.tag, true, f.payload⟩).forwardDown f
  else if f.kind = kindTime then
    (if f.payload.length = 4 then s.setClock (BitVec.ofNat 32 (natOf f.payload))
      else s.buFault).forwardDown f
  else if f.kind = kindEnumerate then
    if f.payload.length = 2 then
      s.forwardDown (if enumerateNext f < address.toNat + 1 then withNext f (address.toNat + 1) else f)
    else s.buFault.forwardDown f
  else s.forwardDown f

/-- A frame that arrives at BU is routed (R138, R145). -/
def routeDown (s : State) (f : Frame) : State :=
  match s.backbone.address with
  | none => s.routeUnassigned f
  | some address =>
    if f.destination = allStations then s.routeAll address f
    else if f.destination = address then s.routeOwn f
    else s.forwardDown f

/-! ### The upstream arbiter (8.3) -/

/-- A frame the station originates (R144). -/
def ownFrame (s : State) (kind tag : Byte) (payload : List Byte) : Frame :=
  { kind := kind
    destination := 0
    source := s.backbone.address.getD 0
    tag := tag
    payload := payload }

/-- The BU transmitter is given a frame. -/
def sendUp (s : State) (f : Frame) : State :=
  { s with backbone := { s.backbone with buTx := some f } }

/-- A local frame has been taken: the streak returns to 0 and the frame is sent (R142, R143). -/
def sendLocal (s : State) (f : Frame) : State :=
  { s with backbone := { s.backbone with buTx := some f, streak := 0 } }

/-- The oldest frame of the up FIFO is taken and sent (R142, R143). -/
def takeUp (s : State) (f : Frame) (rest : List Frame) : State :=
  { s with backbone := { s.backbone with
      upFifo := rest
      buTx := some f
      streak := if rest.isEmpty then 0 else min 8 (s.backbone.streak + 1) } }

/-- The reply slot is taken (R159). The take of the RESTART reply is the warm start (R167); after any
other the engine takes what waits (R156). -/
def takeReply (s : State) (r : Reply) : State :=
  let f := s.ownFrame kindReply r.tag r.payload
  let s := ({ s with mgmt := { s.mgmt with reply := none } } : State).sendLocal f
  match s.mgmt.engine with
  | .restarting => s.warmStart
  | .idle | .committing _ _ => s.takeRequests

/-- The relay source is taken (R119). -/
def takeRelay (s : State) (g : Segment) (r : Relay) : State :=
  (s.setRelays g ((s.sweep g).relays.filter (fun x => x.acceptance != r.acceptance))).sendLocal
    (s.ownFrame kindRelayResult r.tag (r.result g))

/-- The mirror slot is taken (R114). -/
def takeMirror (s : State) (payload : List Byte) : State :=
  ({ s with backbone := { s.backbone with mirror := none } } : State).sendLocal
    (s.ownFrame kindMirror 0 payload)

/-- The first local source that offers is taken: reply slot, relay source, notice source, mirror slot
(R143 step 2, R145). -/
def takeLocal (s : State) : Option State :=
  if s.backbone.address.isNone then none
  else match s.mgmt.reply with
    | some r => some (s.takeReply r)
    | none =>
      match s.endedRelay with
      | some (g, r) => some (s.takeRelay g r)
      | none =>
        match (if s.offersNotice then s.takeNotice else none) with
        | some (payload, s') => some (s'.sendLocal (s.ownFrame kindNotice 0 payload))
        | none => s.backbone.mirror.map s.takeMirror

/-- The upstream arbiter makes one choice (R143); with no source offering it waits. -/
def chooseUpstream (s : State) : State :=
  match s.backbone.upFifo with
  | [] => s.takeLocal.getD s
  | f :: rest =>
    if s.backbone.streak < s.mgmt.settings.burst then s.takeUp f rest
    else s.takeLocal.getD (s.takeUp f rest)

end State

end Sys2Proof.Machine
end

