-- ==== Sys2Proof/Machine/RequestCommands.lean ====
section
/-! DEFINITION. Meanings of the request commands: each is the delivery of that MANAGE frame to the
Management Engine of this station, which takes and executes it when R156 lets it (R154 to R165). -/

namespace Sys2Proof.Machine

/-- The result of every command here: a next state. -/
abbrev Next := Host.Outcome State Fault Refusal

/-- A unicast request with the code and the fields after it. -/
def unicast (code : RequestCode) (tag : Byte) (fields : List Byte) : Request :=
  ⟨tag, false, code.code :: fields⟩

/-- A request with the code, unicast or broadcast. -/
def addressed (broadcast : Bool) (code : RequestCode) (tag : Byte) (fields : List Byte) : Request :=
  ⟨tag, broadcast, code.code :: fields⟩

/-- IDENTIFY (R163). -/
def execIdentify (tag : Byte) (fields : List Byte) (s : State) : Next :=
  .next (s.submit (unicast .identify tag fields))

/-- READ STATUS (R164). -/
def execReadStatus (tag : Byte) (fields : List Byte) (s : State) : Next :=
  .next (s.submit (unicast .readStatus tag fields))

/-- WRITE STATION (R162). -/
def execWriteStation (tag : Byte) (fields : List Byte) (s : State) : Next :=
  .next (s.submit (unicast .writeStation tag fields))

/-- WRITE CAPTURE (R20). -/
def execWriteCapture (tag : Byte) (fields : List Byte) (s : State) : Next :=
  .next (s.submit (unicast .writeCapture tag fields))

/-- WRITE MASK (R21). -/
def execWriteMask (tag : Byte) (fields : List Byte) (s : State) : Next :=
  .next (s.submit (unicast .writeMask tag fields))

/-- WRITE CALIBRATION (R22). -/
def execWriteCalibration (tag : Byte) (fields : List Byte) (s : State) : Next :=
  .next (s.submit (unicast .writeCalibration tag fields))

/-- LOAD SWEEP LIST (R23). -/
def execLoadSweepList (tag : Byte) (fields : List Byte) (s : State) : Next :=
  .next (s.submit (unicast .loadSweepList tag fields))

/-- COMMIT (R25). -/
def execCommit (tag : Byte) (fields : List Byte) (s : State) : Next :=
  .next (s.submit (unicast .commit tag fields))

/-- DISCARD (R24). -/
def execDiscard (tag : Byte) (fields : List Byte) (s : State) : Next :=
  .next (s.submit (unicast .discard tag fields))

/-- WRITE LANE (R1, R11, R12, R64). -/
def execWriteLane (tag : Byte) (fields : List Byte) (s : State) : Next :=
  .next (s.submit (unicast .writeLane tag fields))

/-- READ LANE (R161). -/
def execReadLane (tag : Byte) (fields : List Byte) (s : State) : Next :=
  .next (s.submit (unicast .readLane tag fields))

/-- ZERO LANE (R13). -/
def execZeroLane (tag : Byte) (fields : List Byte) (s : State) : Next :=
  .next (s.submit (unicast .zeroLane tag fields))

/-- ACKNOWLEDGE (R78, R79). -/
def execAcknowledge (tag : Byte) (fields : List Byte) (s : State) : Next :=
  .next (s.submit (unicast .acknowledge tag fields))

/-- READ NODE (R132). -/
def execReadNode (tag : Byte) (fields : List Byte) (s : State) : Next :=
  .next (s.submit (unicast .readNode tag fields))

/-- RELEASE NODE (R130). -/
def execReleaseNode (tag : Byte) (fields : List Byte) (s : State) : Next :=
  .next (s.submit (unicast .releaseNode tag fields))

/-- RELAY (R115). -/
def execRelay (tag : Byte) (fields : List Byte) (s : State) : Next :=
  .next (s.submit (unicast .relay tag fields))

/-- RESTART (R166). -/
def execRestart (tag : Byte) (fields : List Byte) (s : State) : Next :=
  .next (s.submit (unicast .restart tag fields))

/-- NOTICE OUTPUT (R94), unicast or broadcast. -/
def execNoticeOutput (broadcast : Bool) (tag : Byte) (fields : List Byte) (s : State) : Next :=
  .next (s.submit (addressed broadcast .noticeOutput tag fields))

/-- WRITE GROUP (R82 to R84), unicast or broadcast. -/
def execWriteGroup (broadcast : Bool) (tag : Byte) (fields : List Byte) (s : State) : Next :=
  .next (s.submit (addressed broadcast .writeGroup tag fields))

/-- AISLE HOLD (R100), unicast or broadcast. -/
def execAisleHold (broadcast : Bool) (tag : Byte) (fields : List Byte) (s : State) : Next :=
  .next (s.submit (addressed broadcast .aisleHold tag fields))

/-- AISLE RELEASE (R101), unicast or broadcast. -/
def execAisleRelease (broadcast : Bool) (tag : Byte) (fields : List Byte) (s : State) : Next :=
  .next (s.submit (addressed broadcast .aisleRelease tag fields))

/-- A unicast request of no known code (R158 steps 1 and 2). -/
def execUnknownRequest (tag : Byte) (payload : List Byte) (s : State) : Next :=
  .next (s.submit ⟨tag, false, payload⟩)

/-- A broadcast request whose code is not accepted for broadcast (R157). -/
def execBroadcastDiscarded (tag : Byte) (payload : List Byte) (s : State) : Next :=
  .next (s.submit ⟨tag, true, payload⟩)

/-- COMMIT resolution completes (R28 to R30). With no resolution in flight nothing completes (log 4). -/
def execResolutionCompletes (s : State) : Next :=
  match s.mgmt.engine with
  | .committing tag r =>
    let s' := s.installResolution r
    .next (({ s' with mgmt := { s'.mgmt with engine := .idle } } : State).putReply tag
      RequestCode.commit.code .done [byteOf (s.lanesChanged r), byteOf (r.overflow.count id)])
  | .idle | .restarting => .next s

end Sys2Proof.Machine
end

