-- ==== Sys2Proof/Machine/LinkCommands.lean ====
section
/-! DEFINITION. Meanings of cold start and of the backbone commands (R136 to R153). -/

namespace Sys2Proof.Machine

/-- Power-on or RST# (R17, R35, R102, R120, R134, R152, R168). -/
def execColdStart (s : State) : Next := .next s.coldStart

/-- A reception ends at BU: checked (R137), then routed (R138, R145). -/
def execBuFrameReceived (bytes : List Byte) (s : State) : Next :=
  .next (match Frame.decode bytes with
    | some f => s.routeDown f
    | none => s.buFault)

/-- A reception ends at BD: checked (R137), then placed in the up FIFO (R140). -/
def execBdFrameReceived (bytes : List Byte) (s : State) : Next :=
  .next (match Frame.decode bytes with
    | some f => s.forwardUp f
    | none => s.bdFault)

/-- The BD transmitter, idle, takes the oldest frame of the down FIFO (R136, log 5). -/
def execBdTransmit (s : State) : Next :=
  .next (match s.backbone.downFifo with
    | [] => s
    | f :: rest => { s with backbone := { s.backbone with downFifo := rest, bdTx := some f } })

/-- The BU transmitter is idle and the upstream arbiter makes one choice (R142, R143, log 5). -/
def execUpstreamChoice (s : State) : Next := .next s.chooseUpstream

end Sys2Proof.Machine
end

