-- ==== Sys2Proof/Machine/TimerCommands.lean ====
section
/-! DEFINITION. Meanings of the deadline, timer and aisle key commands. Each stands for the moment at
which its measure is complete: what remains of the measure passes first (log 3), and with no measure
running nothing happens (log 4). -/

namespace Sys2Proof.Machine

/-- The station clock reaches a lane's zeroing deadline (R15). -/
def execZeroingDeadlineReached (lane : Fin 128) (s : State) : Next :=
  match (s.lanes.get lane).zeroDeadline with
  | none => .next s
  | some d =>
    let s := s.elapse (remaining s.now d)
    .next (State.close s (s.modifyLane lane (Lane.endZeroing .timeout)))

/-- The station clock reaches a lane's replenish deadline (R72). -/
def execReplenishDeadlineReached (lane : Fin 128) (s : State) : Next :=
  match (s.lanes.get lane).replenishDeadline with
  | none => .next s
  | some d =>
    let s := s.elapse (remaining s.now d)
    .next (State.close s (s.modifyLane lane (fun l => s.judge l { l with replenishDeadline := none })))

/-- The station clock reaches the aisle hold deadline (R101). -/
def execHoldDeadlineReached (s : State) : Next :=
  match s.notice.holdDeadline with
  | none => .next s
  | some d => .next (s.elapse (remaining s.now d)).endHold

/-- The notice spacing elapses since the last take (R91). -/
def execNoticeSpacingElapsed (s : State) : Next :=
  match s.notice.spacing with
  | none => .next s
  | some e => .next (s.elapse (s.mgmt.settings.spacing - e))

/-- A flashing beacon's phase ends and its line changes level (R96). -/
def execBeaconPhaseToggle (beacon : Fin 4) (s : State) : Next :=
  match s.notice.beacons.get beacon with
  | .flashing high e =>
    let s := s.elapse (Config.beaconPhase - e)
    .next { s with notice := { s.notice with
      beacons := s.notice.beacons.set beacon (.flashing (!high) (e - Config.beaconPhase)) } }
  | .off | .steady => .next s

/-- The AKEY input level changes: the debounce of the new level starts, or the one running is abandoned
(R97). -/
def execAkeyLevelChange (low : Bool) (s : State) : Next :=
  if low = s.notice.akeyLow then .next s
  else .next { s with notice := { s.notice with
    akeyLow := low
    debounce := if low != s.keyDown then some 0 else none } }

/-- The key is taken as pressed or released, as its input stands (R97 to R99). -/
def State.takeKey (s : State) : State :=
  let s := { s with notice := { s.notice with debounce := none } }
  if s.notice.akeyLow then
    match s.notice.key with
    | .idle => { s with notice := { s.notice with key := .pressed 0, keyFlag := true } }
    | .pressed _ | .long => s
  else
    match s.notice.key with
    | .pressed _ => ({ s with notice := { s.notice with key := .idle } } : State).shortPress
    | .long => { s with notice := { s.notice with key := .idle } }
    | .idle => s

/-- A new AKEY level has lasted its 20 ms (R97, R98). -/
def execDebounceExpiry (s : State) : Next :=
  match s.notice.debounce with
  | none => .next s
  | some e => .next (s.elapse (Config.debounceTime - e)).takeKey

/-- The hold timer expires with the key still pressed: a long press (R98). -/
def execHoldTimerExpiry (s : State) : Next :=
  match s.notice.key with
  | .pressed e =>
    let s := s.elapse (Config.holdTime - e)
    .next ({ s with notice := { s.notice with key := .long } } : State).toggleHold
  | .idle | .long => .next s

end Sys2Proof.Machine
end

