-- ==== Sys2Proof/Machine/ShelfCommands.lean ====
section
/-! DEFINITION. Meanings of the shelf segment commands (R105 to R122). -/

namespace Sys2Proof.Machine

/-- A segment's sweep timer expires (R105). A timer that stays expired in a sweep does not expire
again; one that is expired between sweeps, as after a start, begins a sweep at once (R120). -/
def execSweepTimerExpiry (segment : Segment) (s : State) : Next :=
  let e := s.sweep segment
  if e.timerExpired then
    if e.visit.isSome then .next s
    else .next (s.setSweep segment (e.startSweep s.active segment))
  else
    let s := s.elapse (s.mgmt.settings.period segment - e.sinceStart)
    .next (s.setSweep segment ((s.sweep segment).expire s.active segment))

/-- The transmission of a POLL or RELAY ends and the reply window opens (R108, R116). -/
def execShelfTransmissionEnd (segment : Segment) (s : State) : Next :=
  match (s.sweep segment).visit with
  | none => .next s
  | some v =>
    match v.stage with
    | .sending =>
      .next (s.setVisit segment (some { v with stage := .window 0 (s.mgmt.settings.window segment) }))
    | .waiting | .window _ _ | .receiving => .next s

/-- A phase with no reply ends missed (R108, R112, R117). -/
def State.endMissed (s : State) (g : Segment) : State :=
  match (s.sweep g).visit with
  | none => s
  | some v =>
    match v.relay with
    | none => s.endPoll g v (.error .missed)
    | some n => s.endRelay g v n (.error .missed)

/-- A reply window expires with no reception begun (R108). -/
def execReplyWindowExpiry (segment : Segment) (s : State) : Next :=
  match (s.sweep segment).visit with
  | none => .next s
  | some v =>
    match v.stage with
    | .window e length =>
      let s := s.elapse (length - e)
      .next (State.close s (s.endMissed segment))
    | .waiting | .sending | .receiving => .next s

/-- A reply is being received, or its window is open and the line is free, so that a reception that
ends now is the reply (R108, log 13). -/
def SweepEngine.awaitsReply (e : SweepEngine) (v : Visit) : Bool :=
  match v.stage with
  | .receiving => true
  | .window _ _ => !e.stray
  | .waiting | .sending => false

/-- A poll-phase reply reception ends (R109 to R116). One cut at 32 bytes has ended: bytes that follow
the cut hold nothing back unless a reception is commanded for them (DESIGN CHOICE, log 24, unsafe). -/
def execReadingReceived (segment : Segment) (bytes : List Byte) (s : State) : Next :=
  match (s.sweep segment).visit with
  | none => .next s
  | some v =>
    if v.relay.isNone && (s.sweep segment).awaitsReply v then
      .next (State.close s (s.endPoll segment v (classifyReading v bytes)))
    else .next s

/-- A relay-phase reply reception ends (R117). Bytes after a cut at 32: log 24. -/
def execRelayAnswerReceived (segment : Segment) (bytes : List Byte) (s : State) : Next :=
  match (s.sweep segment).visit with
  | none => .next s
  | some v =>
    match v.relay with
    | none => .next s
    | some n =>
      if (s.sweep segment).awaitsReply v then
        .next (State.close s (s.endRelay segment v n (classifyAnswer v bytes)))
      else .next s

/-- A frame that waited for the line is sent (R109). -/
def Visit.sendNow (v : Visit) : Visit := if v.stage = .waiting then { v with stage := .sending } else v

/-- A reception that belongs to no phase ends and is discarded (R109, R122). -/
def execShelfFrameDiscarded (segment : Segment) (s : State) : Next :=
  let e := s.sweep segment
  if e.stray then
    .next (s.setSweep segment { e with stray := false, visit := e.visit.map Visit.sendNow })
  else .next s

/-- Reception begins on the line: of the reply while its window is open, of no phase otherwise (R108,
R109). -/
def execShelfReceptionBegins (segment : Segment) (s : State) : Next :=
  let e := s.sweep segment
  match e.visit with
  | none => .next (s.setSweep segment { e with stray := true })
  | some v =>
    match v.stage with
    | .window _ _ =>
      if e.stray then .next s
      else .next (s.setVisit segment (some { v with stage := .receiving }))
    | .receiving => .next s
    | .waiting | .sending => .next (s.setSweep segment { e with stray := true })

end Sys2Proof.Machine
end

