-- ==== Sys2Proof/Machine/Dispatch.lean ====
section
/-! DEFINITION. One arm per command, each one direct call of its meaning. -/

namespace Sys2Proof.Machine

def exec (i : Instr) (s : State) : Host.Outcome State Fault Refusal :=
  match i with
  | .coldStart => Sys2Proof.Machine.execColdStart s
  | .identify tag fields => Sys2Proof.Machine.execIdentify tag fields s
  | .readStatus tag fields => Sys2Proof.Machine.execReadStatus tag fields s
  | .writeStation tag fields => Sys2Proof.Machine.execWriteStation tag fields s
  | .noticeOutput broadcast tag fields => Sys2Proof.Machine.execNoticeOutput broadcast tag fields s
  | .writeCapture tag fields => Sys2Proof.Machine.execWriteCapture tag fields s
  | .writeMask tag fields => Sys2Proof.Machine.execWriteMask tag fields s
  | .writeCalibration tag fields => Sys2Proof.Machine.execWriteCalibration tag fields s
  | .loadSweepList tag fields => Sys2Proof.Machine.execLoadSweepList tag fields s
  | .commit tag fields => Sys2Proof.Machine.execCommit tag fields s
  | .discard tag fields => Sys2Proof.Machine.execDiscard tag fields s
  | .writeLane tag fields => Sys2Proof.Machine.execWriteLane tag fields s
  | .readLane tag fields => Sys2Proof.Machine.execReadLane tag fields s
  | .zeroLane tag fields => Sys2Proof.Machine.execZeroLane tag fields s
  | .acknowledge tag fields => Sys2Proof.Machine.execAcknowledge tag fields s
  | .writeGroup broadcast tag fields => Sys2Proof.Machine.execWriteGroup broadcast tag fields s
  | .readNode tag fields => Sys2Proof.Machine.execReadNode tag fields s
  | .releaseNode tag fields => Sys2Proof.Machine.execReleaseNode tag fields s
  | .relay tag fields => Sys2Proof.Machine.execRelay tag fields s
  | .aisleHold broadcast tag fields => Sys2Proof.Machine.execAisleHold broadcast tag fields s
  | .aisleRelease broadcast tag fields => Sys2Proof.Machine.execAisleRelease broadcast tag fields s
  | .restart tag fields => Sys2Proof.Machine.execRestart tag fields s
  | .unknownRequest tag payload => Sys2Proof.Machine.execUnknownRequest tag payload s
  | .broadcastDiscarded tag payload => Sys2Proof.Machine.execBroadcastDiscarded tag payload s
  | .resolutionCompletes => Sys2Proof.Machine.execResolutionCompletes s
  | .buFrameReceived bytes => Sys2Proof.Machine.execBuFrameReceived bytes s
  | .bdFrameReceived bytes => Sys2Proof.Machine.execBdFrameReceived bytes s
  | .bdTransmit => Sys2Proof.Machine.execBdTransmit s
  | .upstreamChoice => Sys2Proof.Machine.execUpstreamChoice s
  | .zeroingDeadlineReached lane => Sys2Proof.Machine.execZeroingDeadlineReached lane s
  | .replenishDeadlineReached lane => Sys2Proof.Machine.execReplenishDeadlineReached lane s
  | .holdDeadlineReached => Sys2Proof.Machine.execHoldDeadlineReached s
  | .noticeSpacingElapsed => Sys2Proof.Machine.execNoticeSpacingElapsed s
  | .beaconPhaseToggle beacon => Sys2Proof.Machine.execBeaconPhaseToggle beacon s
  | .akeyLevelChange low => Sys2Proof.Machine.execAkeyLevelChange low s
  | .debounceExpiry => Sys2Proof.Machine.execDebounceExpiry s
  | .holdTimerExpiry => Sys2Proof.Machine.execHoldTimerExpiry s
  | .sweepTimerExpiry segment => Sys2Proof.Machine.execSweepTimerExpiry segment s
  | .shelfTransmissionEnd segment => Sys2Proof.Machine.execShelfTransmissionEnd segment s
  | .replyWindowExpiry segment => Sys2Proof.Machine.execReplyWindowExpiry segment s
  | .readingReceived segment bytes => Sys2Proof.Machine.execReadingReceived segment bytes s
  | .relayAnswerReceived segment bytes => Sys2Proof.Machine.execRelayAnswerReceived segment bytes s
  | .shelfFrameDiscarded segment => Sys2Proof.Machine.execShelfFrameDiscarded segment s
  | .shelfReceptionBegins segment => Sys2Proof.Machine.execShelfReceptionBegins segment s

end Sys2Proof.Machine
end

