-- ==== Sys2Proof/Machine/Idle.lean ====
section
/-! DEFINITION. What happens when no command waits: time (log 2). -/

namespace Sys2Proof.Machine

/-- The command, if its moment has come. -/
def dueIf (due : Bool) (c : Instr) : Option Instr := if due then some c else none

/-- A deadline that is present and reached (R149). -/
def deadlineDue (now : Clock) (d : Option Clock) : Bool :=
  match d with
  | some d => reached now d
  | none => false

/-- The sweep timer of a segment has its moment: run out, or expired between sweeps (R105, R120). -/
def SweepEngine.timerDue (period : Nat) (e : SweepEngine) : Bool :=
  if e.timerExpired then e.visit.isNone else period ≤ e.sinceStart

/-- The reply window of a segment has run out (R108). -/
def SweepEngine.windowDue (e : SweepEngine) : Bool :=
  match e.visit with
  | some v => (match v.stage with
    | .window elapsed length => length ≤ elapsed
    | .waiting | .sending | .receiving => false)
  | none => false

/-- The debounce or the hold timer of the key has run out (R97, R98). -/
def NoticeUnit.keyDue (u : NoticeUnit) : Option Instr :=
  (dueIf (match u.debounce with
      | some e => Config.debounceTime ≤ e
      | none => false) .debounceExpiry).or
    (dueIf (match u.key with
      | .pressed e => Config.holdTime ≤ e
      | .idle | .long => false) .holdTimerExpiry)

/-- A flashing beacon's phase has run out (R96). -/
def Beacon.phaseDue : Beacon → Bool
  | .flashing _ e => Config.beaconPhase ≤ e
  | .off | .steady => false

/-- The timed command whose moment has come, the first of a fixed order (log 2). -/
def State.dueCommand (s : State) : Option Instr :=
  (dueIf s.sweepA.windowDue (.replyWindowExpiry .a)).or <|
  (dueIf s.sweepB.windowDue (.replyWindowExpiry .b)).or <|
  (dueIf (s.sweepA.timerDue s.mgmt.settings.periodA) (.sweepTimerExpiry .a)).or <|
  (dueIf (s.sweepB.timerDue s.mgmt.settings.periodB) (.sweepTimerExpiry .b)).or <|
  s.notice.keyDue.or <|
  (dueIf (deadlineDue s.now s.notice.holdDeadline) .holdDeadlineReached).or <|
  ((List.finRange 128).findSome? (fun n =>
    dueIf (deadlineDue s.now (s.lanes.get n).zeroDeadline) (.zeroingDeadlineReached n))).or <|
  ((List.finRange 128).findSome? (fun n =>
    dueIf (deadlineDue s.now (s.lanes.get n).replenishDeadline) (.replenishDeadlineReached n))).or <|
  (List.finRange 4).findSome? (fun b =>
    dueIf (s.notice.beacons.get b).phaseDue (.beaconPhaseToggle b))

/-- With no command waiting, the timed command whose moment has come is executed; with none due, one
millisecond passes (log 2). -/
def idle (s : State) : Host.Outcome State Fault Refusal :=
  match s.dueCommand with
  | some c => exec c s
  | none => .next (s.elapse 1)

end Sys2Proof.Machine
end

