-- ==== Sys2Proof/WellFormed.lean ====
section
/-! DEFINITION. Which commands are well formed: those an event of the part can carry. The meanings take
every command; this file only names the ones that arise. -/

namespace Sys2Proof

/-- A code that Table 9-1 does not have. -/
def unknownCode (b : Byte) : Bool := (RequestCode.ofByte b).isNone

/-- A code that no broadcast is accepted with (R157). -/
def notBroadcastCode (b : Byte) : Bool :=
  match RequestCode.ofByte b with
  | some c => !c.broadcastable
  | none => true

/-- The fields after a request code: a payload holds at most 56 bytes (Table 8-5). -/
def fieldsFit (fields : List Byte) : Bool := fields.length < Config.maxPayload

/-- A whole MANAGE payload that is empty or opens with a code of the kind named. -/
def payloadFits (kind : Byte → Bool) (payload : List Byte) : Bool :=
  payload.length ≤ Config.maxPayload && (payload.head?.map kind).getD true

/-- A reception at a backbone port: at least one byte, cut at 66 (R136). -/
def backboneReception (bytes : List Byte) : Bool :=
  1 ≤ bytes.length && bytes.length ≤ Config.backboneCut

/-- A reception on a shelf segment: at least one byte, cut at 32 (R109). -/
def shelfReception (bytes : List Byte) : Bool := 1 ≤ bytes.length && bytes.length ≤ Config.shelfCut

/-- The command can arise. -/
def Instr.wellFormed : Instr → Bool
  | .coldStart => true
  | .identify _ fields => fieldsFit fields
  | .readStatus _ fields => fieldsFit fields
  | .writeStation _ fields => fieldsFit fields
  | .noticeOutput _ _ fields => fieldsFit fields
  | .writeCapture _ fields => fieldsFit fields
  | .writeMask _ fields => fieldsFit fields
  | .writeCalibration _ fields => fieldsFit fields
  | .loadSweepList _ fields => fieldsFit fields
  | .commit _ fields => fieldsFit fields
  | .discard _ fields => fieldsFit fields
  | .writeLane _ fields => fieldsFit fields
  | .readLane _ fields => fieldsFit fields
  | .zeroLane _ fields => fieldsFit fields
  | .acknowledge _ fields => fieldsFit fields
  | .writeGroup _ _ fields => fieldsFit fields
  | .readNode _ fields => fieldsFit fields
  | .releaseNode _ fields => fieldsFit fields
  | .relay _ fields => fieldsFit fields
  | .aisleHold _ _ fields => fieldsFit fields
  | .aisleRelease _ _ fields => fieldsFit fields
  | .restart _ fields => fieldsFit fields
  | .unknownRequest _ payload => payloadFits unknownCode payload
  | .broadcastDiscarded _ payload => payloadFits notBroadcastCode payload
  | .resolutionCompletes => true
  | .buFrameReceived bytes => backboneReception bytes
  | .bdFrameReceived bytes => backboneReception bytes
  | .bdTransmit => true
  | .upstreamChoice => true
  | .zeroingDeadlineReached _ => true
  | .replenishDeadlineReached _ => true
  | .holdDeadlineReached => true
  | .noticeSpacingElapsed => true
  | .beaconPhaseToggle _ => true
  | .akeyLevelChange _ => true
  | .debounceExpiry => true
  | .holdTimerExpiry => true
  | .sweepTimerExpiry _ => true
  | .shelfTransmissionEnd _ => true
  | .replyWindowExpiry _ => true
  | .readingReceived _ bytes => shelfReception bytes
  | .relayAnswerReceived _ bytes => shelfReception bytes
  | .shelfFrameDiscarded _ => true
  | .shelfReceptionBegins _ => true

end Sys2Proof
end

