-- ==== Sys2Proof/Safety.lean ====
section
/-! DEFINITION. The terms of the statements: what the manual promises of every state that a run reaches,
when a request is taken at its delivery, and the layouts of request fields. -/

namespace Sys2Proof

/-- The unicast request command of a code. -/
def RequestCode.command (code : RequestCode) (tag : Byte) (fields : List Byte) : Instr :=
  match code with
  | .identify => .identify tag fields
  | .readStatus => .readStatus tag fields
  | .writeStation => .writeStation tag fields
  | .noticeOutput => .noticeOutput false tag fields
  | .writeCapture => .writeCapture tag fields
  | .writeMask => .writeMask tag fields
  | .writeCalibration => .writeCalibration tag fields
  | .loadSweepList => .loadSweepList tag fields
  | .commit => .commit tag fields
  | .discard => .discard tag fields
  | .writeLane => .writeLane tag fields
  | .readLane => .readLane tag fields
  | .zeroLane => .zeroLane tag fields
  | .acknowledge => .acknowledge tag fields
  | .writeGroup => .writeGroup false tag fields
  | .readNode => .readNode tag fields
  | .releaseNode => .releaseNode tag fields
  | .relay => .relay tag fields
  | .aisleHold => .aisleHold false tag fields
  | .aisleRelease => .aisleRelease false tag fields
  | .restart => .restart tag fields

/-- The codes of Table 9-1. -/
def RequestCode.byte : RequestCode → Byte
  | .identify => 0x01
  | .readStatus => 0x02
  | .writeStation => 0x03
  | .noticeOutput => 0x04
  | .writeCapture => 0x10
  | .writeMask => 0x11
  | .writeCalibration => 0x12
  | .loadSweepList => 0x13
  | .commit => 0x14
  | .discard => 0x15
  | .writeLane => 0x20
  | .readLane => 0x21
  | .zeroLane => 0x22
  | .acknowledge => 0x23
  | .writeGroup => 0x24
  | .readNode => 0x30
  | .releaseNode => 0x31
  | .relay => 0x32
  | .aisleHold => 0x40
  | .aisleRelease => 0x41
  | .restart => 0x4F

/-- The payload lengths of Table 9-1, with the counts of R158 check 3. -/
def RequestCode.HasLength (code : RequestCode) (n : Nat) : Prop :=
  match code with
  | .identify | .readStatus | .commit | .discard | .aisleHold | .aisleRelease | .restart => n = 1
  | .noticeOutput | .zeroLane | .readNode | .releaseNode => n = 2
  | .readLane => n = 3
  | .writeMask => n = 5
  | .writeGroup => n = 6
  | .writeCapture | .writeCalibration => n = 8
  | .writeStation => n = 14
  | .writeLane => n = 31
  | .loadSweepList => ∃ records, 1 ≤ records ∧ records ≤ 16 ∧ n = 3 + 2 * records
  | .acknowledge => ∃ pairs, 1 ≤ pairs ∧ pairs ≤ 12 ∧ n = 1 + 2 * pairs
  | .relay => ∃ message, 1 ≤ message ∧ message ≤ 16 ∧ n = 4 + message

end Sys2Proof

namespace Sys2Proof.Machine

/-! ### Ranges (the Values, Min and Max columns of the tables) -/

/-- A configuration within Table 1-1. -/
def LaneConfig.InRange (c : LaneConfig) : Prop :=
  1 ≤ c.unitWeight ∧ c.unitWeight ≤ 65000 ∧ c.tare ≤ 1000000
    ∧ 1 ≤ c.capacity ∧ c.capacity ≤ 4095 ∧ c.lowMark < c.capacity ∧ c.criticalMark ≤ c.lowMark
    ∧ c.hysteresis ≤ 255 ∧ 2 ≤ c.settleCount ∧ c.settleCount ≤ 8
    ∧ 1 ≤ c.settleBand ∧ c.settleBand ≤ 65535 ∧ c.tolFixed ≤ 65535 ∧ c.tolUnit ≤ 255
    ∧ 1 ≤ c.unfitLimit ∧ c.unfitLimit ≤ 255 ∧ c.replenish ≤ 1800

/-- A lane record within Tables 1-1 and 1-2; the window holds at most N samples (R38). -/
def Lane.InRange (l : Lane) : Prop :=
  l.config.InRange ∧ l.cells.length ≤ 4 ∧ l.window.length ≤ l.config.settleCount ∧ l.count ≤ 4095
    ∧ l.unfitRun ≤ 255

/-- The occupied positions of each segment's list carry different addresses (R23). -/
def Image.DistinctAddresses (image : Image) : Prop :=
  ∀ i j : Fin 64, segmentOf i = segmentOf j → (image.sweep.get i).occupied = true →
    (image.sweep.get j).occupied = true →
    (image.sweep.get i).address = (image.sweep.get j).address → i = j

/-- An image within Tables 2-4 and 2-5. -/
def Image.InRange (image : Image) : Prop :=
  (∀ c : Fin 256, -8388608 ≤ (image.calibration.get c).zero ∧ (image.calibration.get c).zero ≤ 8388607
      ∧ 1 ≤ (image.calibration.get c).gain ∧ (image.calibration.get c).gain ≤ 65535)
    ∧ (∀ i : Fin 64, 1 ≤ (image.sweep.get i).cellCount ∧ (image.sweep.get i).cellCount ≤ 4
      ∧ ((image.sweep.get i).occupied = true →
          1 ≤ (image.sweep.get i).address.toNat ∧ (image.sweep.get i).address.toNat ≤ 62))
    ∧ image.DistinctAddresses

/-- A node record within Table 7-1; an ACTIVE node's score is 127 or less (Table 7-3, note 2). -/
def Node.InRange (n : Node) : Prop :=
  n.score ≤ 255 ∧ n.missRun ≤ 255 ∧ n.probeRun ≤ 64 ∧ (n.state = .active → n.score ≤ 127)

/-- A relay queue within R115 and Table 6-3. -/
def relaysInRange (rs : List Relay) : Prop :=
  rs.length ≤ 8 ∧ ∀ r ∈ rs, 1 ≤ r.address.toNat ∧ r.address.toNat ≤ 62
    ∧ 1 ≤ r.message.length ∧ r.message.length ≤ 16 ∧ r.failed ≤ 3

/-- A visit of segment `g` is of a slot of that segment, and records a cell count of Table 2-5 (R107,
R108). -/
def SweepEngine.visitInRange (g : Segment) (e : SweepEngine) : Prop :=
  ∀ v, e.visit = some v → segmentOf v.slot = g ∧ 1 ≤ v.cellCount ∧ v.cellCount ≤ 4

/-- The Backbone Switch within Table 8-1. -/
def Backbone.InRange (b : Backbone) : Prop :=
  (∀ a, b.address = some a → 1 ≤ a.toNat ∧ a.toNat ≤ 999)
    ∧ b.upFifo.length ≤ 8 ∧ b.downFifo.length ≤ 8 ∧ b.streak ≤ 8
    ∧ b.buFaults ≤ 65535 ∧ b.bdFaults ≤ 65535 ∧ b.upDrops ≤ 65535 ∧ b.downDrops ≤ 65535

/-- Settings within Table 9-3. -/
def Settings.InRange (w : Settings) : Prop :=
  w.spacing ≤ 1000 ∧ 1 ≤ w.burst ∧ w.burst ≤ 8 ∧ 1 ≤ w.holdLimit ∧ w.holdLimit ≤ 240
    ∧ 1 ≤ w.absentLimit ∧ w.absentLimit ≤ 255 ∧ w.nodePriority ≤ 7
    ∧ 50 ≤ w.periodA ∧ w.periodA ≤ 1000 ∧ 1 ≤ w.windowA ∧ w.windowA ≤ 10
    ∧ 50 ≤ w.periodB ∧ w.periodB ≤ 1000 ∧ 1 ≤ w.windowB ∧ w.windowB ≤ 10

/-- The Management Engine: settings, intake of at most 4 (R154), and a resolution in flight whose lists
hold at most 4 cells (R27). -/
def Management.InRange (m : Management) : Prop :=
  m.settings.InRange ∧ m.intake.length ≤ 4
    ∧ ∀ tag r, m.engine = .committing tag r → ∀ n : Fin 128, (r.lists.get n).length ≤ 4

/-- Every record, queue and count lies within its table. -/
def State.InRange (s : State) : Prop :=
  s.backbone.InRange ∧ s.mgmt.InRange
    ∧ s.notice.queue.length ≤ 32 ∧ (∀ g : Fin 16, (s.notice.groups.get g).priority ≤ 7)
    ∧ s.staged.InRange ∧ s.active.InRange
    ∧ (∀ n : Fin 128, (s.lanes.get n).InRange) ∧ (∀ i : Fin 64, (s.nodes.get i).InRange)
    ∧ relaysInRange s.sweepA.relays ∧ relaysInRange s.sweepB.relays
    ∧ s.sweepA.visitInRange .a ∧ s.sweepB.visitInRange .b

/-! ### Lane records (R2, Table 1-3, R77) -/

/-- The lane states whose band is UNKNOWN (Table 1-3, note 2). -/
def LaneState.uncounted : LaneState → Bool
  | .unbound | .acquiring | .suspect | .blind => true
  | .steady | .moving => false

/-- What the rules of chapters 1 and 4 make true of every lane record: UNBOUND is exactly not bound
(R2); the band is UNKNOWN in exactly the states of Table 1-3; the window of an UNBOUND or BLIND lane is
empty; only a counting lane is zeroing (R13, R16); beacon lit and BAND come only with alert pending, a
pending alert has a raise time, and BAND is pending only while unannounced (R75, R77); what R3 clears
stays clear while the lane is UNBOUND. -/
def Lane.Consistent (l : Lane) : Prop :=
  (l.bound = true ↔ l.state ≠ .unbound)
    ∧ (l.band = .unknown ↔ l.state.uncounted = true)
    ∧ (l.state = .unbound ∨ l.state = .blind → l.window = [])
    ∧ (l.zeroDeadline.isSome = true → l.state.counting = true)
    ∧ (l.beaconLit = true → l.alertPending = true)
    ∧ (l.kinds.band = true → l.alertPending = true ∧ l.alertAnnounced = false)
    ∧ (l.alertPending = true → l.raiseTime.isSome = true)
    ∧ (l.state = .unbound → l.alertPending = false ∧ l.replenishDeadline = none ∧ l.unfitRun = 0
        ∧ l.overfill = false)

/-- Feed doubtful is yes exactly while a node feeding the lane is DOUBTFUL (R10). -/
def State.FeedsReported (s : State) : Prop :=
  ∀ n : Fin 128, (s.lanes.get n).feedDoubtful = true ↔
    ∃ c ∈ (s.lanes.get n).cells, (s.nodes.get c.ref.slot).state = .doubtful

/-- A lane that is not UNBOUND and not frozen agrees exactly while its band is its ref band (R66, R69,
R70). -/
def State.AgreementCurrent (s : State) : Prop :=
  ∀ n : Fin 128, let l := s.lanes.get n
    l.state ≠ .unbound → l.state ≠ .acquiring → l.replenishDeadline = none →
    s.notice.holdDeadline = none → (l.agree = true ↔ l.band = l.refBand)

/-- No cell stands twice in the lists, be it in one list or in two (R19). -/
def assignedOnce (lists : Fin 128 → List CellRef) : Prop :=
  (∀ n, (lists n).Nodup) ∧ ∀ n m, n ≠ m → ∀ r ∈ lists n, r ∉ lists m

/-- Each cell belongs to at most one lane (R19), and will after a resolution in flight (R27). -/
def State.CellsAssignedOnce (s : State) : Prop :=
  assignedOnce (fun n => (s.lanes.get n).cells.map LaneCell.ref)
    ∧ ∀ tag r, s.mgmt.engine = .committing tag r → assignedOnce r.lists.get

/-- Every lane record is consistent in itself, its feed doubtful flag with the node records, its agree
flag with its bands, and its cell list with those of the other lanes. -/
def State.LanesConsistent (s : State) : Prop :=
  (∀ n : Fin 128, (s.lanes.get n).Consistent)
    ∧ s.FeedsReported ∧ s.AgreementCurrent ∧ s.CellsAssignedOnce

/-! ### Notices (R85, R88, R89) -/

/-- A subject stands in the notice queue. -/
def State.queued (s : State) (x : Subject) : Prop := ∃ e ∈ s.notice.queue, e.subject = x

/-- What R88 and R89 say of the notice queue and the deferred set: a subject is due exactly while it has
a pending kind, and stands in exactly one of the two exactly while it is due; neither holds a subject
twice; subjects are deferred only behind a full queue; admission numbers rise along the queue. -/
def State.NoticesConsistent (s : State) : Prop :=
  (∀ x, s.isDue x = true ↔ s.kindPending x = true)
    ∧ (∀ x, s.isDue x = true ↔ s.queued x ∨ x ∈ s.notice.deferred)
    ∧ (∀ x, s.queued x → x ∉ s.notice.deferred)
    ∧ (s.notice.queue.map QueueEntry.subject).Nodup
    ∧ s.notice.deferred.Pairwise (fun x y => x.number < y.number)
    ∧ (s.notice.deferred ≠ [] → s.notice.queue.length = 32)
    ∧ s.notice.queue.length ≤ 32
    ∧ s.notice.queue.Pairwise (fun e f => e.number < f.number)
    ∧ ∀ e ∈ s.notice.queue, e.number < s.notice.nextAdmission

/-- Due since values that lie within half the range of the clock, where earlier and later are an order
(R90, R149; elsewhere log 12). -/
def State.DueComparable (s : State) (xs : List Subject) : Prop :=
  ∃ base : Clock, ∀ x ∈ xs, (s.dueSince x - base).toNat < 2147483648

/-- The queue order admits deferred subject `x` before `y` (R90): in PRIORITY order the higher current
priority; then the earlier due since; then the lower subject number. -/
def State.AdmittedBefore (s : State) (x y : Subject) : Prop :=
  let earlierDue : Prop := 0 < (s.dueSince y - s.dueSince x).toInt
    ∨ (s.dueSince x = s.dueSince y ∧ x.number < y.number)
  match s.mgmt.settings.queueOrder with
  | .priority => s.priority y < s.priority x ∨ (s.priority x = s.priority y ∧ earlierDue)
  | .arrival => earlierDue

/-! ### Requests (R145, R156, R159) and relays (Table 6-3) -/

/-- What R145, R156 and R159 say of the engine: no REPLY waits while a COMMIT runs, so none is ever
replaced; the RESTART reply waits while the engine is RESTARTING; a request waits only while the engine
may not take it; an unassigned station holds no request, no REPLY and no relay. Acceptance numbers rise
along each relay queue and differ between the two. -/
def State.RequestsConsistent (s : State) : Prop :=
  (∀ tag r, s.mgmt.engine = .committing tag r → s.mgmt.reply = none)
    ∧ (s.mgmt.engine = .restarting → ∃ tag, s.mgmt.reply = some ⟨tag, [0x4F, 0x00]⟩)
    ∧ (s.mgmt.intake ≠ [] → s.mgmt.engine ≠ .idle ∨ s.mgmt.reply ≠ none)
    ∧ (s.backbone.address = none → s.mgmt.intake = [] ∧ s.mgmt.reply = none ∧ s.mgmt.engine = .idle
        ∧ s.sweepA.relays = [] ∧ s.sweepB.relays = [])
    ∧ s.sweepA.relays.Pairwise (fun a b => a.acceptance < b.acceptance)
    ∧ s.sweepB.relays.Pairwise (fun a b => a.acceptance < b.acceptance)
    ∧ (∀ a ∈ s.sweepA.relays, ∀ b ∈ s.sweepB.relays, a.acceptance ≠ b.acceptance)
    ∧ ∀ a ∈ s.sweepA.relays ++ s.sweepB.relays, a.acceptance < s.nextAcceptance

/-! ### Beacons (R96) -/

/-- Some lane with beacon lit belongs to a group whose beacon is `b`, with the group's priority at
`low` or above. -/
def State.demanded (s : State) (b : Fin 4) (low : Nat) : Prop :=
  ∃ n : Fin 128, (s.lanes.get n).beaconLit = true
    ∧ (s.notice.groups.get (s.lanes.get n).config.group).beacon = b
    ∧ low ≤ (s.notice.groups.get (s.lanes.get n).config.group).priority

/-- A beacon output shows the flashing pattern. -/
def Beacon.isFlashing : Beacon → Bool
  | .flashing _ _ => true
  | .off | .steady => false

/-- Each output is driven exactly when notice output is ON and its beacon is demanded, and flashes
exactly when a demanding lane's group has priority 4 or above (R96). -/
def State.BeaconsFollow (s : State) : Prop :=
  ∀ b : Fin 4,
    (s.notice.beacons.get b ≠ .off ↔ s.notice.output = .on ∧ s.demanded b 0)
      ∧ ((s.notice.beacons.get b).isFlashing = true ↔ s.notice.output = .on ∧ s.demanded b 4)

/-- A flashing output that was flashing keeps its rhythm, and one that was not starts at the beginning
of its high phase (R96). -/
def rhythmKept (before after : Table Beacon 4) : Prop :=
  ∀ b : Fin 4, (after.get b).isFlashing = true →
    after.get b = if (before.get b).isFlashing then before.get b else .flashing true 0

/-! ### Requests taken at their delivery, and what answers them -/

/-- A request delivered now is taken at its delivery (R145, R156): the address is assigned, the engine
IDLE, the reply slot empty, and nothing waits. -/
def State.TakesAtOnce (s : State) : Prop :=
  s.backbone.address.isSome = true ∧ s.mgmt.engine = .idle ∧ s.mgmt.reply = none ∧ s.mgmt.intake = []

/-- The state with a REPLY of this payload in the reply slot, and nothing else changed. -/
def State.answered (s : State) (tag : Byte) (payload : List Byte) : State :=
  { s with mgmt := { s.mgmt with reply := some ⟨tag, payload⟩ } }

/-- The command that delivers a request as a MANAGE frame does (`ManageFrameIsItsRequest`). -/
def Request.delivery (q : Request) : Instr :=
  if q.broadcast then .broadcastDiscarded q.tag q.payload else .unknownRequest q.tag q.payload

/-- The engine, IDLE at `s` with reply slot and intake FIFO empty, takes the waiting requests `queue` and
leaves `t` (R156, R157): each is executed as at its delivery; after a broadcast one the next is taken; a
unicast one is answered, or holds the engine, and those behind it wait. READ STATUS counts them in the
last field of its reply (Table 9-4). -/
def State.TakesWaiting (s : State) : List Request → State → Prop
  | [], t => t = s
  | q :: rest, t =>
    ∃ u, exec q.delivery s = .next u ∧
      if q.broadcast then u.TakesWaiting rest t
      else t = { u with mgmt := { u.mgmt with
        intake := rest
        reply :=
          if q.payload = [0x02] then
            u.mgmt.reply.map (fun r =>
              { r with payload := r.payload.dropLast ++ [byteOf rest.length] })
          else u.mgmt.reply } }

/-- Only the lanes, the waiting subjects and the beacons differ. -/
def State.SameButLanes (s t : State) : Prop :=
  t = { s with
    lanes := t.lanes
    notice := { s.notice with
      queue := t.notice.queue
      deferred := t.notice.deferred
      nextAdmission := t.notice.nextAdmission
      beacons := t.notice.beacons } }

/-! ### The upstream arbiter (R91, R143) -/

/-- The local sources have their turn: the address is assigned, and the up FIFO does not offer or the
streak has reached the forward burst (R143, R145). -/
def State.LocalTurn (s : State) : Prop :=
  s.backbone.address.isSome = true
    ∧ (s.backbone.upFifo = [] ∨ s.mgmt.settings.burst ≤ s.backbone.streak)

/-- Neither relay queue holds an ended relay (R119). -/
def State.NoEndedRelay (s : State) : Prop :=
  ∀ r ∈ s.sweepA.relays ++ s.sweepB.relays, r.outcome = none

/-- The Notice Unit offers a notice (R91). -/
def State.NoticeOffers (s : State) : Prop :=
  s.notice.output = .on ∧ s.notice.queue ≠ [] ∧ s.backbone.address.isSome = true
    ∧ ∀ e, s.notice.spacing = some e → s.mgmt.settings.spacing ≤ e

/-- A frame joins the down FIFO, or is dropped and counted where that is full (R141). -/
def State.forwarded (s : State) (f : Frame) : State :=
  if s.backbone.downFifo.length < 8 then
    { s with backbone := { s.backbone with downFifo := s.backbone.downFifo ++ [f] } }
  else { s with backbone := { s.backbone with downDrops := min 65535 (s.backbone.downDrops + 1) } }

/-- A BU fault is counted (R137 to R139). -/
def State.buFaulted (s : State) : State :=
  { s with backbone := { s.backbone with buFaults := min 65535 (s.backbone.buFaults + 1) } }

/-! ### Timed commands (R149) -/

/-- A timed command whose measure is complete at `s`, with its place in the fixed order of log 2: a reply
window has run out (R108); a sweep timer has run out, or stands expired between sweeps (R105, R120); the
level of AKEY has lasted 20 ms (R97); the key has been pressed for 4,000 ms (R98); the clock has reached a
deadline (R101, R15, R72); a flashing beacon's phase has lasted 500 ms (R96). -/
inductive TimedDue (s : State) : Nat → Instr → Prop
  | window (g : Segment) (v : Visit) (e k : Nat) : (s.sweep g).visit = some v →
      v.stage = .window e k → k ≤ e → TimedDue s g.code (.replyWindowExpiry g)
  | sweepTimer (g : Segment) : (s.sweep g).timerExpired = false →
      s.mgmt.settings.period g ≤ (s.sweep g).sinceStart →
      TimedDue s (2 + g.code) (.sweepTimerExpiry g)
  | sweepStart (g : Segment) : (s.sweep g).timerExpired = true → (s.sweep g).visit = none →
      TimedDue s (2 + g.code) (.sweepTimerExpiry g)
  | debounce (e : Nat) : s.notice.debounce = some e → 20 ≤ e → TimedDue s 4 .debounceExpiry
  | holdTimer (e : Nat) : s.notice.key = .pressed e → 4000 ≤ e → TimedDue s 5 .holdTimerExpiry
  | holdDeadline (d : Clock) : s.notice.holdDeadline = some d → 0 ≤ (s.backbone.clock - d).toInt →
      TimedDue s 6 .holdDeadlineReached
  | zeroing (n : Fin 128) (d : Clock) : (s.lanes.get n).zeroDeadline = some d →
      0 ≤ (s.backbone.clock - d).toInt → TimedDue s (7 + n.val) (.zeroingDeadlineReached n)
  | replenish (n : Fin 128) (d : Clock) : (s.lanes.get n).replenishDeadline = some d →
      0 ≤ (s.backbone.clock - d).toInt → TimedDue s (135 + n.val) (.replenishDeadlineReached n)
  | beacon (b : Fin 4) (high : Bool) (e : Nat) : s.notice.beacons.get b = .flashing high e → 500 ≤ e →
      TimedDue s (263 + b.val) (.beaconPhaseToggle b)

/-! ### Sweeps (R107, R108) -/

/-- The lowest occupied slot of the segment numbered `low` or above. -/
def Image.FirstFrom (image : Image) (g : Segment) (low : Nat) (slot : Fin 64) : Prop :=
  segmentOf slot = g ∧ low ≤ slot.val ∧ (image.sweep.get slot).occupied = true
    ∧ ∀ j : Fin 64, segmentOf j = g → low ≤ j.val → (image.sweep.get j).occupied = true →
        slot.val ≤ j.val

/-- No slot of the segment numbered `low` or above is occupied. -/
def Image.NoneFrom (image : Image) (g : Segment) (low : Nat) : Prop :=
  ∀ j : Fin 64, segmentOf j = g → low ≤ j.val → (image.sweep.get j).occupied = false

/-- A visit at its start (R108): the recorded sweep list entry and the POLL, which waits for a
reception on the line to end. -/
def Visit.begun (image : Image) (slot : Fin 64) (stray : Bool) : Visit where
  slot := slot
  address := (image.sweep.get slot).address
  cellCount := (image.sweep.get slot).cellCount
  mirror := (image.sweep.get slot).mirror
  changed := false
  relay := none
  frame := [(image.sweep.get slot).address.setWidth 8, 0x21,
    crc8 [(image.sweep.get slot).address.setWidth 8, 0x21]]
  stage := if stray then .waiting else .sending

/-- A sweep has begun (R105, R107): the timer restarted, and the lowest occupied slot visited, if any. -/
def SweepEngine.Begun (image : Image) (g : Segment) (before after : SweepEngine) : Prop :=
  (∀ slot, image.FirstFrom g 0 slot →
      after = { before with
        sinceStart := 0
        timerExpired := false
        visit := some (Visit.begun image slot before.stray) })
    ∧ (image.NoneFrom g 0 →
      after = { before with sinceStart := 0, timerExpired := false, visit := none })

/-- A visit of `slot` has ended (R105, R107): the next occupied slot is visited; with none left the
sweep ends, and an owed sweep begins at once with sweep-late set. -/
def SweepEngine.MovedOn (image : Image) (g : Segment) (slot : Fin 64) (before after : SweepEngine) :
    Prop :=
  (∀ next, image.FirstFrom g (slot.val + 1) next →
      after = { before with visit := some (Visit.begun image next before.stray) })
    ∧ (image.NoneFrom g (slot.val + 1) → before.owed = false → after = { before with visit := none })
    ∧ (image.NoneFrom g (slot.val + 1) → before.owed = true →
        SweepEngine.Begun image g { before with owed := false, late := true } after)

/-- Only the lanes, the node records, the waiting subjects, the beacons and the engine of segment `g`
differ: what the outcome of a visit of that segment touches. -/
def State.SameButOutcome (g : Segment) (s t : State) : Prop :=
  t = { s with
    lanes := t.lanes
    nodes := t.nodes
    notice := { s.notice with
      queue := t.notice.queue
      deferred := t.notice.deferred
      nextAdmission := t.notice.nextAdmission
      beacons := t.notice.beacons }
    sweepA := t.sweepA
    sweepB := t.sweepB }
  ∧ ∀ h, h ≠ g → t.sweep h = s.sweep h

/-- The open relays for an address end with NO_NODE (R118). -/
def relaysLost (address : BitVec 6) (rs : List Relay) : List Relay :=
  rs.map (fun r =>
    if r.outcome = none ∧ r.address = address then { r with outcome := some .noNode } else r)

/-- A failed attempt at a relay (R117): the third ends it UNANSWERED. -/
def Relay.attemptFailed (r : Relay) : Relay :=
  if r.failed < 2 then { r with failed := r.failed + 1 }
  else { r with failed := 3, outcome := some .unanswered }

/-! ### What chapter 1 does to a lane record -/

/-- The window and the fresh set emptied (R6). -/
def Lane.emptied (l : Lane) : Lane :=
  { l with window := [], cells := l.cells.map (fun c => { c with fresh := false }) }

/-- Zeroing, if in progress, ended with CANCELLED (R16). -/
def Lane.unzeroed (l : Lane) : Lane :=
  if l.zeroDeadline.isSome = true then
    { l with
      zeroDeadline := none, zeroResult := some .cancelled, kinds := { l.kinds with zero := true } }
  else l

/-- After an entry to BLIND (R7). -/
def Lane.wentBlind (l : Lane) : Lane :=
  { l.emptied.unzeroed with state := .blind, band := .unknown }

/-- After an entry to ACQUIRING (R5). -/
def Lane.wentAcquiring (l : Lane) : Lane :=
  { l.emptied with state := .acquiring, band := .unknown, unfitRun := 0 }

/-- After an entry to UNBOUND (R3). -/
def Lane.wentUnbound (l : Lane) : Lane :=
  let k := l.emptied.unzeroed
  { k with
    state := .unbound
    band := .unknown
    agree := true
    alertPending := false
    beaconLit := false
    kinds := { k.kinds with band := false }
    replenishDeadline := none
    unfitRun := 0
    overfill := false }

/-- Feed doubtful set from the node states (R10). -/
def Lane.doubted (nodes : Table Node 64) (l : Lane) : Lane :=
  { l with feedDoubtful := decide (∃ c ∈ l.cells, (nodes.get c.ref.slot).state = .doubtful) }

/-- Agreement after an event at `s` that takes lane `l` to `k` while aisle hold stays as it is
(`AgreementIsJudgedOnce` says what it is). -/
def State.agreed (s : State) (l k : Lane) : Lane :=
  Lane.judge s.notice.groups s.backbone.clock s.notice.holdDeadline.isSome
    s.notice.holdDeadline.isSome l k

/-! ### The end of a visit's phase -/

/-- The phase of visit `v` ends with outcome `o` and the visit with it (R112, R117): the node takes the
outcome; a change of its state is reported, with the lanes it feeds BLIND and its open relays ended where
it is lost (R131, R7, R10, R118); the sweep moves on. `touched` is what the phase did to each lane before,
and `relays` the segment's relay queue as the phase left it. -/
def State.TookOutcome (s t : State) (g : Segment) (v : Visit) (o : VisitOutcome)
    (touched : Lane → Lane) (relays : List Relay) : Prop :=
  let position := s.active.sweep.get v.slot
  let n := s.nodes.get v.slot
  let n' := n.judge s.mgmt.settings.absentLimit position.autoRecover o
  let reported : Bool := n'.state != n.state
  let lost : Bool := reported && (n'.state == .cutOff || n'.state == .absent)
  s.SameButOutcome g t
    ∧ (∀ i, i ≠ v.slot → t.nodes.get i = s.nodes.get i)
    ∧ t.nodes.get v.slot = Node.settleDue s.backbone.clock n
        { n' with statePending := n.statePending || reported }
    ∧ (∀ m : Fin 128, let l := touched (s.lanes.get m)
        t.lanes.get m = Lane.settleDue s.backbone.clock (s.lanes.get m)
          (if reported = true ∧ ∃ c ∈ l.cells, c.ref.slot = v.slot then
            s.agreed l ((if lost = true ∧ l.state.counting = true then l.wentBlind else l).doubted
              t.nodes)
          else l))
    ∧ t.BeaconsFollow ∧ rhythmKept s.notice.beacons t.notice.beacons
    ∧ SweepEngine.MovedOn s.active g v.slot
        { s.sweep g with relays := if lost = true then relaysLost position.address relays else relays }
        (t.sweep g)

/-- The outcome of a visit whose slot a COMMIT changed is discarded, and the visit ends (R28). -/
def State.DiscardedOutcome (s t : State) (g : Segment) (v : Visit) : Prop :=
  t = { s.setSweep g (t.sweep g) with
      notice := { s.notice with beacons := t.notice.beacons } }
    ∧ (s.BeaconsFollow → t.notice.beacons = s.notice.beacons)
    ∧ SweepEngine.MovedOn s.active g v.slot (s.sweep g) (t.sweep g)

/-! ### Layouts of request fields -/

/-- The code of a route (Table 9-1). -/
def Route.byte : Route → Byte
  | .notice => 0x00
  | .beacon => 0x01
  | .both => 0x02

/-- The code of a notice output value (Table 9-1). -/
def NoticeOutput.byte : NoticeOutput → Byte
  | .on => 0x00
  | .held => 0x01

/-- The fields of a WRITE LANE for lane `n` (Table 8-9). -/
def LaneWrite.fields (n : Fin 128) (w : LaneWrite) : List Byte :=
  [byteOf n.val, yesByte w.enabled] ++ be4 w.product.toNat ++ be2 w.unitWeight ++ be4 w.tare
    ++ be2 w.capacity ++ be2 w.lowMark ++ be2 w.criticalMark
    ++ [byteOf w.hysteresis, byteOf w.settleCount] ++ be2 w.settleBand ++ be2 w.tolFixed
    ++ [byteOf w.tolUnit, byteOf w.unfitLimit] ++ be2 w.replenish
    ++ [byteOf w.group, yesByte w.reportCounts]

/-- Values that the fields of a WRITE LANE can carry (Table 8-9). -/
def LaneWrite.Carried (w : LaneWrite) : Prop :=
  w.unitWeight < 65536 ∧ w.tare < 4294967296 ∧ w.capacity < 65536 ∧ w.lowMark < 65536
    ∧ w.criticalMark < 65536 ∧ w.hysteresis < 256 ∧ w.settleCount < 256 ∧ w.settleBand < 65536
    ∧ w.tolFixed < 65536 ∧ w.tolUnit < 256 ∧ w.unfitLimit < 256 ∧ w.replenish < 65536 ∧ w.group < 256

/-- Values that the fields of a WRITE STATION can carry (Table 9-3). -/
def Settings.Carried (w : Settings) : Prop :=
  w.spacing < 65536 ∧ w.burst < 256 ∧ w.holdLimit < 256 ∧ w.absentLimit < 256 ∧ w.nodePriority < 256
    ∧ w.periodA < 65536 ∧ w.windowA < 256 ∧ w.periodB < 65536 ∧ w.windowB < 256

/-- A record of a LOAD SWEEP LIST (Table 9-1, note 1). -/
def SweepPosition.record (r : SweepPosition) : List Byte :=
  [byteOf (128 * r.occupied.toNat + r.address.toNat),
    byteOf (r.cellCount + 8 * r.mirror.toNat + 16 * r.autoRecover.toNat)]

/-- What a slot of the staged list holds after a LOAD SWEEP LIST of the records from position `first`
of the segment on (R23). -/
def loadedPosition (old : Table SweepPosition 64) (g : Segment) (first : Nat)
    (records : List SweepPosition) (slot : Fin 64) : SweepPosition :=
  if segmentOf slot = g ∧ first ≤ slot.val % 32 then
    (records[slot.val % 32 - first]?).getD (old.get slot)
  else old.get slot

/-- The cell is matched by the entry under the mask slot it names (R26). -/
def CaptureEntry.Takes (image : Image) (r : CellRef) (e : CaptureEntry) : Prop :=
  e.valid = true
    ∧ ((image.masks.get e.mask).compareSegment = true → segmentOf r.slot = e.keySegment)
    ∧ (∀ i < 6, (image.masks.get e.mask).addressBits.getLsbD i = true →
        (image.sweep.get r.slot).address.getLsbD i = e.keyAddress.getLsbD i)
    ∧ ((image.masks.get e.mask).compareCell = true → r.cell = e.keyCell)

/-! ### Freeze ends and raises (R70, R75) -/

/-- A lane after a raise (R75): steps 1 to 4 with the lane's group as it stands. -/
def Lane.raised (g : Group) (now : Clock) (l : Lane) : Lane :=
  { l with
    agree := false
    alertPending := true
    alertAnnounced := false
    raiseTime := some now
    beaconLit := l.beaconLit || g.route == .beacon || g.route == .both
    kinds := { l.kinds with
      band := l.kinds.band || (g.enable && (g.route == .notice || g.route == .both)) } }

/-- A lane after a freeze-end evaluation that is not held back by another cause (R70). -/
def Lane.freezeEnded (g : Group) (now : Clock) (l : Lane) : Lane :=
  if l.agree = true ∧ l.band ≠ l.refBand then l.raised g now else { l with agree := l.band == l.refBand }

/-- A lane at the end of aisle hold (R73). -/
def Lane.holdEnded (g : Group) (now : Clock) (l : Lane) : Lane :=
  if l.state = .unbound ∨ l.state = .acquiring ∨ l.replenishDeadline.isSome = true then l
  else l.freezeEnded g now

end Sys2Proof.Machine
end

