-- ==== Sys2Proof/Certificates/Slice0/Obligations.lean ====
section
/-! DEFINITION. The statements for the provers. Those about a request say what happens when it is
delivered to a station that takes it at once (`State.TakesAtOnce`, R156); `RequestsWaitTheirTurn` says
what happens otherwise. An equation `exec c s = .next t` with `t` written as an update of `s` is the
frame as well: whatever the update does not name is unchanged. -/

open Sys2Proof Sys2Proof.Machine

/-! ### The machine -/

/-- The step runs the command at the front of the queue on the state with the queue's rest. -/
def Obligations.StepRunsFrontCommand : Prop :=
  ∀ (c : Instr) (rest : List Instr) (s : State),
    step { s with pending := c :: rest } = exec c { s with pending := rest }

/-- With no command waiting, a timed command whose measure is complete is run, the first of a fixed order,
and with none complete one millisecond passes. The model's choice, log 2; that the measures are those of
`TimedDue` is the manual's (R15, R72, R96 to R98, R101, R105, R108, R120, R149). -/
def Obligations.EmptyQueueLetsTimePass : Prop :=
  ∀ s : State, let w : State := { s with pending := [] }
    ((∀ k c, ¬ TimedDue w k c) → step w = .next (w.elapse 1))
    ∧ (∀ k c, TimedDue w k c → (∀ j d, TimedDue w j d → k ≤ j) → step w = exec c w)
    ∧ (w.dueCommand = none ↔ ∀ k c, ¬ TimedDue w k c)
    ∧ ∀ c, w.dueCommand = some c ↔
        ∃ k, TimedDue w k c ∧ ∀ j d, TimedDue w j d → k ≤ j

/-- No command stops the machine, and none touches the queue of commands. The model's choice: the manual
names no event that stops the part (log 22), a command whose condition does not hold changes nothing
(log 4), and COLD_START keeps the queue (log 23). -/
def Obligations.EveryCommandHasNextState : Prop :=
  ∀ (c : Instr) (s : State), ∃ t, exec c s = .next t ∧ t.pending = s.pending

/-! ### Starts -/

/-- Cold start, every field written out (R17, R35, R102, R120, R134, R152, R168). The levels of AKEY
and of the shelf lines are outside the part (logs 7, 8); the numbers the manual says are restarted
start at 0, and so does a node's due since (log 10). The state after reset is such a state with no key
pressed, no reception on the shelf lines and no command waiting. -/
def Obligations.ColdStartValues : Prop :=
  exec .coldStart State.reset = .next State.reset ∧ State.reset.notice.akeyLow = false
  ∧ State.reset.sweepA.stray = false ∧ State.reset.sweepB.stray = false ∧ State.reset.pending = []
  ∧ ∀ s : State, exec .coldStart s = .next
    { pending := s.pending
      backbone :=
        { address := none, clock := 0, upFifo := [], downFifo := [], streak := 0, mirror := none
          buFaults := 0, bdFaults := 0, upDrops := 0, downDrops := 0, buTx := none, bdTx := none }
      mgmt :=
        { settings :=
            { queueOrder := .priority, spacing := 20, burst := 4, holdLimit := 30, absentLimit := 10
              nodePriority := 6, periodA := 100, windowA := 3, periodB := 100, windowB := 3 }
          intake := [], reply := none, engine := .idle
          requestOverrun := false, missedBroadcast := false }
      notice :=
        { groups := .const 16 { enable := false, priority := 0, route := .notice, beacon := 0 }
          output := .on, queue := [], deferred := [], nextAdmission := 0, spacing := none
          beacons := .const 4 .off
          akeyLow := s.notice.akeyLow
          debounce := if s.notice.akeyLow then some 0 else none
          key := .idle, keyFlag := false, holdDeadline := none }
      staged :=
        { captures := .const 64
            { valid := false, keySegment := .a, keyAddress := 0, keyCell := 0, mask := 0, lane := 0 }
          masks := .const 4 { compareSegment := true, addressBits := 0x3F, compareCell := true }
          calibration := .const 256 { zero := 0, gain := 8192 }
          sweep := .const 64
            { occupied := false, address := 0, cellCount := 1, mirror := false, autoRecover := true } }
      active :=
        { captures := .const 64
            { valid := false, keySegment := .a, keyAddress := 0, keyCell := 0, mask := 0, lane := 0 }
          masks := .const 4 { compareSegment := true, addressBits := 0x3F, compareCell := true }
          calibration := .const 256 { zero := 0, gain := 8192 }
          sweep := .const 64
            { occupied := false, address := 0, cellCount := 1, mirror := false, autoRecover := true } }
      lanes := .const 128
        { config :=
            { enabled := false, product := 0, unitWeight := 1000, tare := 0, capacity := 100
              lowMark := 20, criticalMark := 5, hysteresis := 2, settleCount := 4, settleBand := 100
              tolFixed := 200, tolUnit := 20, unfitLimit := 20, replenish := 300, group := 0
              reportCounts := false }
          state := .unbound, cells := [], window := [], count := 0, settled := none
          band := .unknown, refBand := .stocked, agree := true, unfitRun := 0
          alertPending := false, alertAnnounced := false, beaconLit := false, raiseTime := none
          kinds := { band := false, count := false, zero := false, capture := false }
          due := false, dueSince := 0, zeroResult := none, zeroDeadline := none
          replenishDeadline := none, overfill := false, feedDoubtful := false
          captureOverflow := false }
      nodes := .const 64
        { state := .active, score := 0, missRun := 0, probeRun := 0, recovery := .auto
          releaseGranted := false, corruptSeen := false, malformedSeen := false, missedSeen := false
          statePending := false, due := false, dueSince := 0 }
      sweepA :=
        { sinceStart := 0, timerExpired := true, owed := false, late := false, visit := none
          stray := s.sweepA.receiving, relays := [] }
      sweepB :=
        { sinceStart := 0, timerExpired := true, owed := false, late := false, visit := none
          stray := s.sweepB.receiving, relays := [] }
      sequences := .const 64 none
      nextAcceptance := 0 }

/-- The take of the RESTART reply is the warm start (R167): the reply is sent, and every block takes
its warm start values (R18, R36, R103, R121, R135, R153). The queue is rebuilt from the lanes then due, in
the queue order, 32 of them at most, and the rest are deferred; each beacon is decided afresh, a flashing
one at the start of its high phase (R104). Sending goes on while the counts restart (logs 7, 8, 10). -/
def Obligations.RestartReplyTakenIsWarmStart : Prop :=
  ∀ (s : State) (a : BitVec 16) (r : Reply), s.LocalTurn → s.backbone.address = some a →
    s.mgmt.reply = some r → s.mgmt.engine = .restarting →
    ∃ t, exec .upstreamChoice s = .next t
      ∧ t.pending = s.pending
      ∧ t.backbone = { s.backbone with
          upFifo := [], downFifo := [], streak := 0, mirror := none
          buFaults := 0, bdFaults := 0, upDrops := 0, downDrops := 0
          buTx := some ⟨0x52, 0, a, r.tag, r.payload⟩ }
      ∧ t.mgmt = { s.mgmt with
          intake := [], reply := none, engine := .idle
          requestOverrun := false, missedBroadcast := false }
      ∧ t.notice = { s.notice with
          queue := t.notice.queue, deferred := t.notice.deferred
          nextAdmission := t.notice.queue.length
          spacing := none, beacons := t.notice.beacons
          debounce := if s.notice.akeyLow then some 0 else none
          key := .idle, keyFlag := false, holdDeadline := none }
      ∧ (∀ n : Fin 128, (t.lanes.get n).due = true ↔
          t.queued (.lane n) ∨ Subject.lane n ∈ t.notice.deferred)
      ∧ (∀ i : Fin 64, ¬ t.queued (.node i) ∧ Subject.node i ∉ t.notice.deferred)
      ∧ (t.notice.queue.map QueueEntry.subject ++ t.notice.deferred).Nodup
      ∧ t.notice.queue.length ≤ 32 ∧ (t.notice.deferred ≠ [] → t.notice.queue.length = 32)
      ∧ t.notice.queue.map QueueEntry.number = List.range t.notice.queue.length
      ∧ (t.DueComparable (t.notice.queue.map QueueEntry.subject ++ t.notice.deferred) →
          t.notice.queue.Pairwise (fun e f => t.AdmittedBefore e.subject f.subject)
          ∧ ∀ e ∈ t.notice.queue, ∀ x ∈ t.notice.deferred, t.AdmittedBefore e.subject x)
      ∧ t.BeaconsFollow
      ∧ (∀ b : Fin 4, (t.notice.beacons.get b).isFlashing = true →
          t.notice.beacons.get b = .flashing true 0)
      ∧ t.staged = s.staged ∧ t.active = s.active
      ∧ (∀ n : Fin 128, t.lanes.get n = Lane.settleDue s.now (s.lanes.get n)
          { s.lanes.get n with
            cells := (s.lanes.get n).cells.map (fun c => { c with fresh := false })
            window := []
            replenishDeadline := none
            feedDoubtful := false
            zeroDeadline := none
            zeroResult :=
              if (s.lanes.get n).zeroing then some .cancelled else (s.lanes.get n).zeroResult
            kinds := { (s.lanes.get n).kinds with
              zero := (s.lanes.get n).kinds.zero || (s.lanes.get n).zeroing }
            state := if (s.lanes.get n).bound then .acquiring else (s.lanes.get n).state
            band := if (s.lanes.get n).bound then .unknown else (s.lanes.get n).band
            unfitRun := if (s.lanes.get n).bound then 0 else (s.lanes.get n).unfitRun })
      ∧ (∀ i : Fin 64, t.nodes.get i =
          { state := .active, score := 0, missRun := 0, probeRun := 0, recovery := .auto
            releaseGranted := false, corruptSeen := false, malformedSeen := false
            missedSeen := false, statePending := false, due := false
            dueSince := (s.nodes.get i).dueSince })
      ∧ t.sweepA = { sinceStart := 0, timerExpired := true, owed := false, late := false
                     visit := none, stray := s.sweepA.receiving, relays := [] }
      ∧ t.sweepB = { sinceStart := 0, timerExpired := true, owed := false, late := false
                     visit := none, stray := s.sweepB.receiving, relays := [] }
      ∧ t.sequences = .const 64 none ∧ t.nextAcceptance = 0

/-! ### Requests: intake, lengths, reading -/

/-- A request that the engine may not take joins the intake FIFO, and at a full FIFO it is dropped with
its flag set (R154, R155, R156): every unicast request, every accepted broadcast and every broadcast that
will be discarded. An unassigned station has none delivered (R145); that the command then changes nothing
is the model's choice of what a request command is there (log 1). -/
def Obligations.RequestsWaitTheirTurn : Prop :=
  ∀ (s : State) (tag : Byte),
    let arrives (c : Instr) (q : Request) : Prop :=
      (s.backbone.address = none → exec c s = .next s)
      ∧ (s.backbone.address.isSome = true → (s.mgmt.engine ≠ .idle ∨ s.mgmt.reply ≠ none) →
        (s.mgmt.intake.length < 4 →
          exec c s = .next { s with mgmt := { s.mgmt with intake := s.mgmt.intake ++ [q] } })
        ∧ (4 ≤ s.mgmt.intake.length → q.broadcast = false →
          exec c s = .next { s with mgmt := { s.mgmt with requestOverrun := true } })
        ∧ (4 ≤ s.mgmt.intake.length → q.broadcast = true →
          exec c s = .next { s with mgmt := { s.mgmt with missedBroadcast := true } }))
    (∀ (code : RequestCode) (fields : List Byte),
      arrives (code.command tag fields) ⟨tag, false, code.byte :: fields⟩)
    ∧ (∀ payload : List Byte, arrives (.unknownRequest tag payload) ⟨tag, false, payload⟩)
    ∧ (∀ fields : List Byte,
        arrives (.noticeOutput true tag fields) ⟨tag, true, 0x04 :: fields⟩
        ∧ arrives (.writeGroup true tag fields) ⟨tag, true, 0x24 :: fields⟩
        ∧ arrives (.aisleHold true tag fields) ⟨tag, true, 0x40 :: fields⟩
        ∧ arrives (.aisleRelease true tag fields) ⟨tag, true, 0x41 :: fields⟩)
    ∧ ∀ payload : List Byte, arrives (.broadcastDiscarded tag payload) ⟨tag, true, payload⟩

/-- Checks 1 to 3 of R158 and the discarding of R157: an empty payload, a code not in Table 9-1 and a
length that Table 9-1 does not give the code are answered and change nothing else; a broadcast with
another code than the four, or with one of the four at a wrong length, changes nothing at all. -/
def Obligations.RefusedByCodeOrLength : Prop :=
  ∀ (s : State) (tag : Byte), s.TakesAtOnce →
    exec (.unknownRequest tag []) s = .next (s.answered tag [0x00, 0x02])
    ∧ (∀ (c : Byte) (fields : List Byte), (∀ code : RequestCode, code.byte ≠ c) →
        exec (.unknownRequest tag (c :: fields)) s = .next (s.answered tag [c, 0x04]))
    ∧ (∀ (code : RequestCode) (fields : List Byte), ¬ code.HasLength (fields.length + 1) →
        exec (code.command tag fields) s = .next (s.answered tag [code.byte, 0x02]))
    ∧ exec (.broadcastDiscarded tag []) s = .next s
    ∧ (∀ (c : Byte) (fields : List Byte),
        c ≠ 0x04 → c ≠ 0x24 → c ≠ 0x40 → c ≠ 0x41 →
        exec (.broadcastDiscarded tag (c :: fields)) s = .next s)
    ∧ ∀ fields : List Byte,
        (fields.length ≠ 1 → exec (.noticeOutput true tag fields) s = .next s)
        ∧ (fields.length ≠ 5 → exec (.writeGroup true tag fields) s = .next s)
        ∧ (fields.length ≠ 0 → exec (.aisleHold true tag fields) s = .next s
          ∧ exec (.aisleRelease true tag fields) s = .next s)

/-- IDENTIFY answers the device code, the station address and the settings, and changes nothing
(R163). -/
def Obligations.IdentifyAnswersSettings : Prop :=
  ∀ (s : State) (tag : Byte) (a : BitVec 16), s.TakesAtOnce → s.backbone.address = some a →
    exec (.identify tag []) s = .next (s.answered tag ([0x01, 0x00] ++ [0x1C, 0xFC] ++ be2 a.toNat
      ++ [byteOf s.mgmt.settings.queueOrder.code] ++ be2 s.mgmt.settings.spacing
      ++ [byteOf s.mgmt.settings.burst] ++ [byteOf s.mgmt.settings.holdLimit]
      ++ [byteOf s.mgmt.settings.absentLimit] ++ [byteOf s.mgmt.settings.nodePriority]
      ++ be2 s.mgmt.settings.periodA ++ [byteOf s.mgmt.settings.windowA]
      ++ be2 s.mgmt.settings.periodB ++ [byteOf s.mgmt.settings.windowB]))

/-- READ STATUS answers the fields of Table 9-4 and clears those marked there (R164). The state taken
at its delivery has an empty intake FIFO, so its last field is 0. -/
def Obligations.ReadStatusAnswersAndClears : Prop :=
  ∀ (s : State) (tag : Byte), s.TakesAtOnce →
    exec (.readStatus tag []) s = .next
      { s with
        backbone := { s.backbone with buFaults := 0, bdFaults := 0, upDrops := 0, downDrops := 0 }
        mgmt := { s.mgmt with
          requestOverrun := false
          missedBroadcast := false
          reply := some ⟨tag, [0x02, 0x00]
            ++ [byteOf (packBits [s.mgmt.requestOverrun, s.mgmt.missedBroadcast, s.sweepA.late,
                s.sweepB.late, s.notice.keyFlag, s.notice.holdDeadline.isSome,
                s.notice.output == .held])]
            ++ be4 (s.notice.holdDeadline.getD 0).toNat ++ be4 s.backbone.clock.toNat
            ++ be2 s.backbone.buFaults ++ be2 s.backbone.bdFaults
            ++ be2 s.backbone.upDrops ++ be2 s.backbone.downDrops
            ++ [byteOf s.notice.queue.length, byteOf s.notice.deferred.length,
              byteOf s.sweepA.relays.length, byteOf s.sweepB.relays.length, 0x00]⟩ }
        notice := { s.notice with keyFlag := false }
        sweepA := { s.sweepA with late := false }
        sweepB := { s.sweepB with late := false } }

/-- WRITE STATION clamps and stores the ten settings, completes with ADJUSTED exactly where one was
clamped (R162), and a changed sweep period acts on a running timer at once (R106; a moment equal to now
counts as passed, log 16). A queue order code other than 0 and 1 is refused. -/
def Obligations.WriteStationStoresSettings : Prop :=
  ∀ (s : State) (tag : Byte), s.TakesAtOnce →
    (∀ w : Settings, w.Carried →
      let w' : Settings :=
        { queueOrder := w.queueOrder
          spacing := min 1000 w.spacing
          burst := max 1 (min 8 w.burst)
          holdLimit := max 1 (min 240 w.holdLimit)
          absentLimit := max 1 (min 255 w.absentLimit)
          nodePriority := min 7 w.nodePriority
          periodA := max 50 (min 1000 w.periodA)
          windowA := max 1 (min 10 w.windowA)
          periodB := max 50 (min 1000 w.periodB)
          windowB := max 1 (min 10 w.windowB) }
      let acts (g : Segment) (e : SweepEngine) (old new : Nat) : SweepEngine :=
        if new = old ∨ e.timerExpired = true ∨ e.sinceStart < new then e
        else if e.visit.isSome then { e with owed := true, timerExpired := true }
        else e.startSweep s.active g
      exec (.writeStation tag w.bytes) s = .next
        { s with
          mgmt := { s.mgmt with
            settings := w'
            reply := some ⟨tag, [0x03, if w' = w then 0x00 else 0x01]⟩ }
          sweepA := acts .a s.sweepA s.mgmt.settings.periodA w'.periodA
          sweepB := acts .b s.sweepB s.mgmt.settings.periodB w'.periodB })
    ∧ ∀ (code : Byte) (rest : List Byte), rest.length = 12 → code ≠ 0x00 → code ≠ 0x01 →
        exec (.writeStation tag (code :: rest)) s = .next (s.answered tag [0x03, 0x03])

/-! ### The staged image and COMMIT -/

/-- WRITE CAPTURE stores all six fields of the staged entry, or refuses in the order of R20. -/
def Obligations.WriteCaptureStoresEntry : Prop :=
  ∀ (s : State) (tag : Byte), s.TakesAtOnce →
    (∀ (entry : Fin 64) (valid : Byte) (g : Segment) (address : BitVec 6) (cell mask : Fin 4)
        (lane : Fin 128),
      let captures := s.staged.captures.set entry ⟨valid != 0x00, g, address, cell, mask, lane⟩
      exec (.writeCapture tag [byteOf entry.val, valid, byteOf g.code, address.setWidth 8,
          byteOf cell.val, byteOf mask.val, byteOf lane.val]) s = .next
        (({ s with staged := { s.staged with captures := captures } } : State).answered tag
          [0x10, 0x00]))
    ∧ ∀ entry valid g address cell mask lane : Byte,
        (63 < entry.toNat ∨ 3 < mask.toNat ∨ 127 < lane.toNat →
          exec (.writeCapture tag [entry, valid, g, address, cell, mask, lane]) s =
            .next (s.answered tag [0x10, 0x04]))
        ∧ (entry.toNat ≤ 63 → mask.toNat ≤ 3 → lane.toNat ≤ 127 →
          1 < g.toNat ∨ 63 < address.toNat ∨ 3 < cell.toNat →
          exec (.writeCapture tag [entry, valid, g, address, cell, mask, lane]) s =
            .next (s.answered tag [0x10, 0x03]))

/-- WRITE MASK stores the three fields of the staged mask slot, and WRITE CALIBRATION the zero and gain
of the staged calibration cell; each is refused in the order of its rule (R21, R22). -/
def Obligations.MaskAndCalibrationStored : Prop :=
  ∀ (s : State) (tag : Byte), s.TakesAtOnce →
    (∀ (slot : Fin 4) (segment : Byte) (bits : BitVec 6) (cell : Byte),
      let masks := s.staged.masks.set slot ⟨segment != 0x00, bits, cell != 0x00⟩
      exec (.writeMask tag [byteOf slot.val, segment, bits.setWidth 8, cell]) s = .next
        (({ s with staged := { s.staged with masks := masks } } : State).answered tag [0x11, 0x00]))
    ∧ (∀ slot segment bits cell : Byte,
        (3 < slot.toNat → exec (.writeMask tag [slot, segment, bits, cell]) s =
            .next (s.answered tag [0x11, 0x04]))
        ∧ (slot.toNat ≤ 3 → 63 < bits.toNat →
          exec (.writeMask tag [slot, segment, bits, cell]) s =
            .next (s.answered tag [0x11, 0x03])))
    ∧ (∀ (cell : Fin 256) (zero : BitVec 24) (gain : Nat), 1 ≤ gain → gain < 65536 →
      let calibration := s.staged.calibration.set cell ⟨zero.toInt, gain⟩
      exec (.writeCalibration tag (be2 cell.val ++ be3 zero.toNat ++ be2 gain)) s = .next
        (({ s with staged := { s.staged with calibration := calibration } } : State).answered tag
          [0x12, 0x00]))
    ∧ ∀ (cell gain : Nat) (zero : List Byte), cell < 65536 → gain < 65536 → zero.length = 3 →
        (255 < cell → exec (.writeCalibration tag (be2 cell ++ zero ++ be2 gain)) s =
            .next (s.answered tag [0x12, 0x04]))
        ∧ (cell ≤ 255 → gain = 0 → exec (.writeCalibration tag (be2 cell ++ zero ++ be2 gain)) s =
            .next (s.answered tag [0x12, 0x03]))

/-- LOAD SWEEP LIST stores every record it carries at positions first, first + 1 and so on of the
segment's staged list, or refuses in the order of R23. -/
def Obligations.LoadSweepListStoresRecords : Prop :=
  ∀ (s : State) (tag : Byte) (g : Segment) (first : Nat) (records : List SweepPosition),
    s.TakesAtOnce → 1 ≤ records.length → records.length ≤ 16 → first < 256 →
    (∀ r ∈ records, r.cellCount < 8) →
    let loaded := loadedPosition s.staged.sweep g first records
    let acceptable := ∀ r ∈ records, 1 ≤ r.cellCount ∧ r.cellCount ≤ 4
      ∧ (r.occupied = true → 1 ≤ r.address.toNat ∧ r.address.toNat ≤ 62)
    let distinct := ∀ i j : Fin 64, segmentOf i = g → segmentOf j = g → (loaded i).occupied = true →
      (loaded j).occupied = true → (loaded i).address = (loaded j).address → i = j
    let command : Instr :=
      .loadSweepList tag ([byteOf g.code, byteOf first] ++ records.flatMap SweepPosition.record)
    (first + records.length ≤ 32 → acceptable → distinct →
      exec command s = .next (({ s with staged := { s.staged with
        sweep := Table.build loaded } } : State).answered tag [0x13, 0x00]))
    ∧ (32 < first + records.length → exec command s = .next (s.answered tag [0x13, 0x04]))
    ∧ (first + records.length ≤ 32 → ¬ acceptable →
        exec command s = .next (s.answered tag [0x13, 0x03]))
    ∧ (first + records.length ≤ 32 → acceptable → ¬ distinct →
        exec command s = .next (s.answered tag [0x13, 0x03]))
    ∧ ∀ code : Byte, 1 < code.toNat →
        exec (.loadSweepList tag ([code, byteOf first] ++ records.flatMap SweepPosition.record)) s =
          .next (s.answered tag [0x13, 0x03])

/-- DISCARD copies the whole active image over the staged image, and changes nothing else (R24). -/
def Obligations.DiscardCopiesActiveImage : Prop :=
  ∀ (s : State) (tag : Byte), s.TakesAtOnce →
    exec (.discard tag []) s =
      .next (({ s with staged := s.active } : State).answered tag [0x15, 0x00])

/-- Resolution (R26, R27) and the changed slots (R28): the cells of the occupied positions are visited
in slot order and cell order; a cell goes to the lane of its lowest-numbered matching entry; a lane
takes the first four cells offered, and a fifth sets its overflow flag. -/
def Obligations.ResolutionFollowsCellOrder : Prop :=
  ∀ (staged active : Image),
    (∀ r : CellRef, r ∈ staged.cells ↔ (staged.sweep.get r.slot).occupied = true
        ∧ r.cell.val < (staged.sweep.get r.slot).cellCount)
    ∧ staged.cells.Pairwise (fun r q => r.slot < q.slot ∨ (r.slot = q.slot ∧ r.cell < q.cell))
    ∧ (∀ (r : CellRef) (n : Fin 128), staged.captor r = some n ↔
        ∃ e : Fin 64, (staged.captures.get e).lane = n
          ∧ CaptureEntry.Takes staged r (staged.captures.get e)
          ∧ ∀ e' : Fin 64, e' < e → ¬ CaptureEntry.Takes staged r (staged.captures.get e'))
    ∧ (∀ n : Fin 128, (resolve staged active).lists.get n =
        (staged.cells.filter (fun r => staged.captor r == some n)).take 4)
    ∧ (∀ n : Fin 128, (resolve staged active).overflow.get n = true ↔
        4 < (staged.cells.filter (fun r => staged.captor r == some n)).length)
    ∧ ∀ i : Fin 64, (resolve staged active).changed.get i = true ↔
        (active.sweep.get i).occupied ≠ (staged.sweep.get i).occupied
        ∨ ((active.sweep.get i).occupied = true ∧ (staged.sweep.get i).occupied = true
            ∧ (active.sweep.get i).address ≠ (staged.sweep.get i).address)

/-- RESOLUTION_COMPLETES (R28, R29, R30): the staged image becomes active; changed slots are reset, their
old relays end, their sequences are forgotten and a visit in progress of one is marked; changed lists are
installed, with the lane's state, zeroing, feed doubtful and agreement (R3 to R5, R7, R10, R16, R67)
following; every lane takes its overflow flag; and the COMMIT is answered with its two counts. That the
beacons follow all lanes together is the model's choice (log 26). -/
def Obligations.CompletionInstallsResolution : Prop :=
  ∀ (s : State) (tag : Byte) (r : Resolution), s.mgmt.engine = .committing tag r →
    s.LanesConsistent →
    let changed (n : Fin 128) : Prop :=
      (s.lanes.get n).cells.map LaneCell.ref ≠ r.lists.get n
      ∨ (∃ c ∈ (s.lanes.get n).cells, r.changed.get c.ref.slot = true)
      ∨ ∃ c ∈ r.lists.get n, r.changed.get c.slot = true
    ∃ t, exec .resolutionCompletes s = .next t
      ∧ t.pending = s.pending ∧ t.backbone = s.backbone
      ∧ t.active = s.staged ∧ t.staged = s.staged ∧ t.nextAcceptance = s.nextAcceptance
      ∧ (∃ lanesChanged lanesOverflow : Nat,
          t.mgmt = { s.mgmt with
            engine := .idle
            reply := some ⟨tag, [0x14, 0x00, byteOf lanesChanged, byteOf lanesOverflow]⟩ }
          ∧ (∀ l : List (Fin 128), l.Nodup → (∀ n, n ∈ l ↔ changed n) → l.length = lanesChanged)
          ∧ ∀ l : List (Fin 128), l.Nodup → (∀ n, n ∈ l ↔ r.overflow.get n = true) →
              l.length = lanesOverflow)
      ∧ t.notice = { s.notice with
          queue := t.notice.queue
          deferred := t.notice.deferred
          nextAdmission := t.notice.nextAdmission
          beacons := t.notice.beacons }
      ∧ t.BeaconsFollow ∧ rhythmKept s.notice.beacons t.notice.beacons
      ∧ (∀ i : Fin 64, r.changed.get i = true →
          t.sequences.get i = none
          ∧ t.nodes.get i = Node.settleDue s.backbone.clock (s.nodes.get i)
            { state := .active, score := 0, missRun := 0, probeRun := 0, recovery := .auto
              releaseGranted := false, corruptSeen := false, malformedSeen := false
              missedSeen := false, statePending := false
              due := (s.nodes.get i).due, dueSince := (s.nodes.get i).dueSince })
      ∧ (∀ i : Fin 64, r.changed.get i = false →
          t.sequences.get i = s.sequences.get i ∧ t.nodes.get i = s.nodes.get i)
      ∧ (∀ g : Segment, t.sweep g = { s.sweep g with
          visit := (s.sweep g).visit.map (fun v =>
            { v with changed := v.changed || r.changed.get v.slot })
          relays := (s.sweep g).relays.map (fun x =>
            if x.outcome = none ∧ ∃ i : Fin 64, segmentOf i = g ∧ r.changed.get i = true
              ∧ (s.active.sweep.get i).occupied = true
              ∧ (s.active.sweep.get i).address = x.address
            then { x with outcome := some .noNode } else x) })
      ∧ ∀ n : Fin 128,
          let l := s.lanes.get n
          let new := r.lists.get n
          let stored : Lane := ({ l with
            cells := new.map (fun c => { ref := c, fresh := false, value := none })
            window := [] } : Lane).unzeroed
          let entered : Lane :=
            if l.config.enabled = true ∧ new ≠ [] then
              if ∃ c ∈ new, r.changed.get c.slot = false
                  ∧ ((s.nodes.get c.slot).state = .cutOff ∨ (s.nodes.get c.slot).state = .absent)
              then stored.wentBlind else stored.wentAcquiring
            else if l.state = .unbound then stored
            else stored.wentUnbound
          ∃ k : Lane, (changed n → k = entered.doubted t.nodes) ∧ (¬ changed n → k = l)
            ∧ t.lanes.get n = Lane.settleDue s.backbone.clock l (s.agreed l { k with
                captureOverflow := r.overflow.get n
                kinds := { k.kinds with capture := k.kinds.capture || r.overflow.get n } })

/-! ### Lanes -/

/-- WRITE LANE stores the clamped configuration, completes with ADJUSTED exactly where a field was
clamped, and touches no other lane; it is refused in the order lane, unit weight, group (R1). Any byte but
0 in enabled and report counts is yes (Table 8-6). -/
def Obligations.WriteLaneStoresClamped : Prop :=
  ∀ (s : State) (tag : Byte), s.TakesAtOnce →
    (∀ (n : Fin 128) (w : LaneWrite) (g : Fin 16), w.Carried → w.unitWeight ≠ 0 → w.group = g.val →
      let capacity := max 1 (min 4095 w.capacity)
      let low := min w.lowMark (capacity - 1)
      let stored : LaneConfig :=
        { enabled := w.enabled, product := w.product
          unitWeight := min w.unitWeight 65000
          tare := min w.tare 1000000
          capacity := capacity
          lowMark := low
          criticalMark := min w.criticalMark low
          hysteresis := w.hysteresis
          settleCount := max 2 (min 8 w.settleCount)
          settleBand := max 1 w.settleBand
          tolFixed := w.tolFixed, tolUnit := w.tolUnit
          unfitLimit := max 1 w.unfitLimit
          replenish := min w.replenish 1800
          group := g
          reportCounts := w.reportCounts }
      let asWritten := w.unitWeight ≤ 65000 ∧ w.tare ≤ 1000000 ∧ 1 ≤ w.capacity ∧ w.capacity ≤ 4095
        ∧ w.lowMark < w.capacity ∧ w.criticalMark ≤ w.lowMark ∧ 2 ≤ w.settleCount
        ∧ w.settleCount ≤ 8 ∧ 1 ≤ w.settleBand ∧ 1 ≤ w.unfitLimit ∧ w.replenish ≤ 1800
      ∃ t, exec (.writeLane tag (w.fields n)) s = .next t
        ∧ (t.lanes.get n).config = stored
        ∧ (∀ m, m ≠ n → t.lanes.get m = s.lanes.get m)
        ∧ (asWritten → (s.answered tag [0x20, 0x00]).SameButLanes t)
        ∧ (¬ asWritten → (s.answered tag [0x20, 0x01]).SameButLanes t))
    ∧ (∀ (n enabled reportCounts : Byte) (rest : List Byte), rest.length = 27 →
        exec (.writeLane tag ([n, enabled] ++ rest ++ [reportCounts])) s =
          exec (.writeLane tag
            ([n, if enabled = 0x00 then 0x00 else 0x01] ++ rest
              ++ [if reportCounts = 0x00 then 0x00 else 0x01])) s)
    ∧ (∀ (n : Byte) (rest : List Byte), rest.length = 29 → 127 < n.toNat →
        exec (.writeLane tag (n :: rest)) s = .next (s.answered tag [0x20, 0x04]))
    ∧ ∀ (n : Fin 128) (w : LaneWrite), w.Carried →
        (w.unitWeight = 0 → exec (.writeLane tag (w.fields n)) s = .next (s.answered tag [0x20, 0x03]))
        ∧ (w.unitWeight ≠ 0 → 16 ≤ w.group →
          exec (.writeLane tag (w.fields n)) s = .next (s.answered tag [0x20, 0x04]))

/-- What a stored WRITE LANE does to the lane's record: the state effects of R11 (R2 to R5, R7, R10, R16),
then the window and overfill (R12), then the band (R64), and last one agreement evaluation (R66, R67) and
notice due (R85). The configuration stored is that of `WriteLaneStoresClamped`. -/
def Obligations.WriteLaneActsOnLaneState : Prop :=
  ∀ (s : State) (tag : Byte) (n : Fin 128) (w : LaneWrite), s.TakesAtOnce → w.Carried →
    w.unitWeight ≠ 0 → w.group < 16 →
    ∃ t, exec (.writeLane tag (w.fields n)) s = .next t ∧
      let l := s.lanes.get n
      let c := (t.lanes.get n).config
      let stored : Lane := ({ l with config := c } : Lane).unzeroed
      let moved : Lane :=
        if c.enabled ≠ l.config.enabled then
          if l.cells = [] then stored
          else if c.enabled = true then
            (if ∃ x ∈ l.cells, (s.nodes.get x.ref.slot).state = .cutOff
                ∨ (s.nodes.get x.ref.slot).state = .absent
              then stored.wentBlind else stored.wentAcquiring).doubted s.nodes
          else stored.wentUnbound
        else if l.state.counting = true
            ∧ (c.unitWeight ≠ l.config.unitWeight ∨ c.tare ≠ l.config.tare) then
          stored.wentAcquiring
        else stored
      let trimmed : Lane := { moved with
        window := moved.window.drop (moved.window.length - c.settleCount)
        overfill :=
          if c.capacity ≠ l.config.capacity ∧ moved.state ≠ .unbound then
            decide (c.capacity < l.count)
          else moved.overfill }
      let banded : Lane := { trimmed with
        band :=
          if (moved.state = .steady ∨ moved.state = .moving)
              ∧ (c.capacity ≠ l.config.capacity ∨ c.lowMark ≠ l.config.lowMark
                ∨ c.criticalMark ≠ l.config.criticalMark ∨ c.hysteresis ≠ l.config.hysteresis) then
            nextBand c moved.band l.count
          else moved.band }
      c.enabled = w.enabled
        ∧ t.lanes.get n = Lane.settleDue s.backbone.clock l (s.agreed l banded)

/-- READ LANE answers the part named, built from the lane record, and changes nothing (R161, Tables
9-5 and 8-6). That the stored status of a cell without a value is sent as 0 (log 25), and yes as 01h
(log 29), is the model's choice. -/
def Obligations.ReadLaneAnswersParts : Prop :=
  ∀ (s : State) (tag : Byte), s.TakesAtOnce →
    (∀ n : Fin 128,
      let l := s.lanes.get n
      let flagsA := byteOf (packBits [l.agree, l.alertPending, l.alertAnnounced, l.beaconLit,
        l.overfill, l.feedDoubtful, l.captureOverflow, l.settled.isSome])
      let flagsB := byteOf (packBits [l.raiseTime.isSome, l.due, l.zeroDeadline.isSome,
        l.replenishDeadline.isSome])
      exec (.readLane tag [byteOf n.val, 0x00]) s = .next (s.answered tag ([0x21, 0x00]
        ++ [byteOf l.state.code, byteOf l.window.length] ++ be2 l.count
        ++ be4 (BitVec.ofInt 32 (l.settled.getD 0)).toNat
        ++ [byteOf l.band.code, byteOf l.refBand.code, flagsA, flagsB]
        ++ be4 (l.raiseTime.getD 0).toNat
        ++ [byteOf l.unfitRun,
          byteOf (packBits [l.kinds.band, l.kinds.count, l.kinds.zero, l.kinds.capture])]
        ++ be4 l.dueSince.toNat ++ [byteOf (zeroResultCode l.zeroResult)]
        ++ be4 (l.zeroDeadline.getD 0).toNat ++ be4 (l.replenishDeadline.getD 0).toNat
        ++ [byteOf l.config.group.val] ++ be4 l.config.product.toNat))
      ∧ exec (.readLane tag [byteOf n.val, 0x01]) s = .next (s.answered tag ([0x21, 0x00]
        ++ [byteOf l.cells.length] ++ l.cells.flatMap (fun c =>
          [byteOf c.ref.slot.val, byteOf c.ref.cell.val, byteOf (packBits [c.fresh, c.value.isSome])]
          ++ be4 (BitVec.ofInt 32 ((c.value.map CellValue.grams).getD 0)).toNat
          ++ [byteOf ((c.value.map (fun v => v.status.code)).getD 0)])))
      ∧ exec (.readLane tag [byteOf n.val, 0x02]) s = .next (s.answered tag ([0x21, 0x00]
        ++ [yesByte l.config.enabled] ++ be4 l.config.product.toNat ++ be2 l.config.unitWeight
        ++ be4 l.config.tare ++ be2 l.config.capacity ++ be2 l.config.lowMark
        ++ be2 l.config.criticalMark ++ [byteOf l.config.hysteresis, byteOf l.config.settleCount]
        ++ be2 l.config.settleBand ++ be2 l.config.tolFixed
        ++ [byteOf l.config.tolUnit, byteOf l.config.unfitLimit] ++ be2 l.config.replenish
        ++ [byteOf l.config.group.val, yesByte l.config.reportCounts])))
    ∧ ∀ n part : Byte,
        (127 < n.toNat →
          exec (.readLane tag [n, part]) s = .next (s.answered tag [0x21, 0x04]))
        ∧ (n.toNat ≤ 127 → 2 < part.toNat →
          exec (.readLane tag [n, part]) s = .next (s.answered tag [0x21, 0x03]))

/-- ZERO LANE by lane number and lane state (R13): on a counting lane zeroing begins or restarts. -/
def Obligations.ZeroLaneBeginsZeroing : Prop :=
  ∀ (s : State) (tag : Byte), s.TakesAtOnce →
    (∀ n : Fin 128, let l := s.lanes.get n
      ((l.state = .acquiring ∨ l.state = .steady ∨ l.state = .moving ∨ l.state = .suspect) →
        exec (.zeroLane tag [byteOf n.val]) s = .next
          (({ s with lanes := s.lanes.set n { l with
              window := []
              cells := l.cells.map (fun c => { c with fresh := false })
              state := if l.state = .steady then .moving else l.state
              zeroDeadline := some (s.backbone.clock + 30000)
              zeroResult := none } } : State).answered tag [0x22, 0x00]))
      ∧ (l.state = .unbound →
        exec (.zeroLane tag [byteOf n.val]) s = .next (s.answered tag [0x22, 0x05]))
      ∧ (l.state = .blind →
        exec (.zeroLane tag [byteOf n.val]) s = .next (s.answered tag [0x22, 0x06])))
    ∧ ∀ n : Byte, 127 < n.toNat →
        exec (.zeroLane tag [n]) s = .next (s.answered tag [0x22, 0x04])

/-- ACKNOWLEDGE checks every pair before it applies any, and leaves each lane named with the band of
its last pair as ref band, its alert cleared, BAND removed, and agree set unless the lane is frozen
(R78, R79). -/
def Obligations.AcknowledgeWritesRefBands : Prop :=
  ∀ (s : State) (tag : Byte), s.TakesAtOnce →
    (∀ pairs : List (Fin 128 × Band), 1 ≤ pairs.length → pairs.length ≤ 12 →
      ∃ t, exec (.acknowledge tag (pairs.flatMap (fun p => [byteOf p.1.val, byteOf p.2.code]))) s =
          .next t
        ∧ (s.answered tag [0x23, 0x00]).SameButLanes t
        ∧ (∀ n : Fin 128, (∀ p ∈ pairs, p.1 ≠ n) → t.lanes.get n = s.lanes.get n)
        ∧ ∀ (n : Fin 128) (before after : List (Fin 128 × Band)) (b : Band),
            pairs = before ++ [(n, b)] ++ after → (∀ p ∈ after, p.1 ≠ n) →
            let l := s.lanes.get n
            t.lanes.get n = Lane.settleDue s.backbone.clock l { l with
              refBand := b
              alertPending := false
              beaconLit := false
              kinds := { l.kinds with band := false }
              agree :=
                if l.state = .acquiring ∨ l.replenishDeadline.isSome = true
                    ∨ s.notice.holdDeadline.isSome = true
                then l.agree else l.band == b })
    ∧ ∀ (good : List (Fin 128 × Band)) (lane band : Byte) (rest : List Byte),
        rest.length % 2 = 0 → 2 * good.length + rest.length ≤ 22 →
        let command : Instr := .acknowledge tag
          (good.flatMap (fun p => [byteOf p.1.val, byteOf p.2.code]) ++ [lane, band] ++ rest)
        (127 < lane.toNat → exec command s = .next (s.answered tag [0x23, 0x04]))
        ∧ (lane.toNat ≤ 127 → 4 < band.toNat →
          exec command s = .next (s.answered tag [0x23, 0x03]))

/-- A stored WRITE GROUP, unicast or broadcast, stores the four fields, and announces the group's
unannounced alerts exactly when the group becomes announcing (R82, R83, R84); a broadcast is not
answered, and a refused one changes nothing (R157). -/
def Obligations.WriteGroupStoresAndAnnounces : Prop :=
  ∀ (s : State) (tag : Byte), s.TakesAtOnce →
    (∀ (broadcast : Bool) (n : Fin 16) (enable : Byte) (priority : Fin 8) (route : Route)
        (beacon : Fin 4),
      let old := s.notice.groups.get n
      let g : Group := { enable := enable != 0x00, priority := priority.val, route := route
                         beacon := beacon }
      let becomes : Prop := (g.enable = true ∧ g.route ≠ .beacon)
        ∧ ¬ (old.enable = true ∧ old.route ≠ .beacon)
      let u : State := if broadcast then s else s.answered tag [0x24, 0x00]
      ∃ t, exec (.writeGroup broadcast tag
            [byteOf n.val, enable, byteOf priority.val, route.byte, byteOf beacon.val]) s = .next t
        ∧ ({ u with notice := { u.notice with groups := u.notice.groups.set n g } } : State).SameButLanes t
        ∧ ∀ m : Fin 128, let l := s.lanes.get m
            (becomes → l.config.group = n → l.alertPending = true → l.alertAnnounced = false →
              t.lanes.get m = Lane.settleDue s.backbone.clock l
                { l with kinds := { l.kinds with band := true } })
            ∧ (¬ (becomes ∧ l.config.group = n ∧ l.alertPending = true ∧ l.alertAnnounced = false) →
              t.lanes.get m = l))
    ∧ ∀ n enable priority route beacon : Byte,
        (15 < n.toNat →
          exec (.writeGroup false tag [n, enable, priority, route, beacon]) s =
            .next (s.answered tag [0x24, 0x04])
          ∧ exec (.writeGroup true tag [n, enable, priority, route, beacon]) s = .next s)
        ∧ (n.toNat ≤ 15 → 7 < priority.toNat ∨ 2 < route.toNat ∨ 3 < beacon.toNat →
          exec (.writeGroup false tag [n, enable, priority, route, beacon]) s =
            .next (s.answered tag [0x24, 0x03])
          ∧ exec (.writeGroup true tag [n, enable, priority, route, beacon]) s = .next s)

/-! ### Nodes, relays, output, aisle hold, RESTART -/

/-- READ NODE answers the record as it stands and then empties errors-seen (R132). -/
def Obligations.ReadNodeAnswersAndEmpties : Prop :=
  ∀ (s : State) (tag : Byte), s.TakesAtOnce →
    (∀ slot : Fin 64, let n := s.nodes.get slot
      exec (.readNode tag [byteOf slot.val]) s = .next
        (({ s with nodes := s.nodes.set slot { n with
            corruptSeen := false, malformedSeen := false, missedSeen := false } } : State).answered tag
          ([0x30, 0x00] ++ [byteOf (segmentOf slot).code, (s.active.sweep.get slot).address.setWidth 8,
            byteOf n.state.code, byteOf n.score, byteOf n.missRun, byteOf n.probeRun,
            byteOf (packBits [decide (96 ≤ n.score), n.recovery == .release, n.releaseGranted,
              n.corruptSeen, n.malformedSeen, n.missedSeen])])))
    ∧ ∀ slot : Byte, 63 < slot.toNat →
        exec (.readNode tag [slot]) s = .next (s.answered tag [0x30, 0x04])

/-- RELEASE NODE (R130): it returns a CUT_OFF node whose probe run is 64, grants the release of one
whose run is below, and does nothing to another node. A return is reported (R131): the node's subject has
STATE pending, the lanes the node feeds have feed doubtful set again (R10), and nothing else changes but
the waiting subjects. -/
def Obligations.ReleaseNodeReturnsOrGrants : Prop :=
  ∀ (s : State) (tag : Byte), s.TakesAtOnce → s.BeaconsFollow →
    (∀ slot : Fin 64, let n := s.nodes.get slot
      (n.state = .cutOff → n.probeRun = 64 →
        ∃ t, exec (.releaseNode tag [byteOf slot.val]) s = .next t
          ∧ t = { s.answered tag [0x31, 0x00] with
              nodes := t.nodes
              lanes := t.lanes
              notice := { s.notice with
                queue := t.notice.queue
                deferred := t.notice.deferred
                nextAdmission := t.notice.nextAdmission } }
          ∧ t.nodes.get slot = Node.settleDue s.backbone.clock n { n with
              state := .active, score := 0, missRun := 0, probeRun := 0, releaseGranted := false
              statePending := true }
          ∧ (∀ i, i ≠ slot → t.nodes.get i = s.nodes.get i)
          ∧ ∀ m : Fin 128, let l := s.lanes.get m
              t.lanes.get m =
                if ∃ c ∈ l.cells, c.ref.slot = slot then l.doubted t.nodes else l)
      ∧ (n.state = .cutOff → n.probeRun ≠ 64 →
        exec (.releaseNode tag [byteOf slot.val]) s = .next
          (({ s with nodes := s.nodes.set slot { n with releaseGranted := true } } : State).answered tag
            [0x31, 0x00]))
      ∧ (n.state ≠ .cutOff →
        exec (.releaseNode tag [byteOf slot.val]) s = .next (s.answered tag [0x31, 0x00])))
    ∧ ∀ slot : Byte, 63 < slot.toNat →
        exec (.releaseNode tag [slot]) s = .next (s.answered tag [0x31, 0x04])

/-- RELAY appends an open relay with the next acceptance number, or one that has ended NO_NODE where
its node is missing or lost; it is refused in the order of R115 (the message length is a check of
R158). -/
def Obligations.RelayIsQueued : Prop :=
  ∀ (s : State) (tag : Byte), s.TakesAtOnce → s.active.DistinctAddresses →
    (∀ (g : Segment) (address : BitVec 6) (disturbs : Byte) (message : List Byte),
      1 ≤ address.toNat → address.toNat ≤ 62 → 1 ≤ message.length → message.length ≤ 16 →
      let command : Instr :=
        .relay tag ([byteOf g.code, address.setWidth 8, disturbs] ++ message)
      ((s.sweep g).relays.length < 8 →
        ∃ o, exec command s = .next
            (({ s.setSweep g { s.sweep g with relays := (s.sweep g).relays ++
                [{ acceptance := s.nextAcceptance, tag := tag, address := address
                   disturbs := disturbs != 0x00, message := message, failed := 0, outcome := o }] } with
              nextAcceptance := s.nextAcceptance + 1 } : State).answered tag [0x32, 0x00])
          ∧ (o = none ∨ o = some .noNode)
          ∧ (o = none ↔ ∃ slot : Fin 64, segmentOf slot = g
              ∧ (s.active.sweep.get slot).occupied = true
              ∧ (s.active.sweep.get slot).address = address
              ∧ ((s.nodes.get slot).state = .active ∨ (s.nodes.get slot).state = .doubtful)))
      ∧ (8 ≤ (s.sweep g).relays.length →
        exec command s = .next (s.answered tag [0x32, 0x07])))
    ∧ ∀ (g address disturbs : Byte) (message : List Byte), 1 ≤ message.length → message.length ≤ 16 →
        1 < g.toNat ∨ address.toNat = 0 ∨ 62 < address.toNat →
        exec (.relay tag ([g, address, disturbs] ++ message)) s = .next (s.answered tag [0x32, 0x03])

/-- NOTICE OUTPUT, unicast or broadcast, stores the new value (R94), and each beacon is then driven from
the lanes that demand it, or dark while output is HELD (R95, R96); a broadcast is not answered (R157).
Writing the value already held changes nothing. -/
def Obligations.NoticeOutputStoresAndDrives : Prop :=
  ∀ (s : State) (tag : Byte), s.TakesAtOnce →
    (∀ (broadcast : Bool) (o : NoticeOutput),
      let u : State := if broadcast then s else s.answered tag [0x04, 0x00]
      ∃ t, exec (.noticeOutput broadcast tag [o.byte]) s = .next t
        ∧ t = { u with notice := { u.notice with output := o, beacons := t.notice.beacons } }
        ∧ t.BeaconsFollow ∧ rhythmKept s.notice.beacons t.notice.beacons
        ∧ (s.BeaconsFollow → s.notice.output = o → t = u))
    ∧ ∀ code : Byte, 1 < code.toNat →
        exec (.noticeOutput false tag [code]) s = .next (s.answered tag [0x04, 0x03])
        ∧ exec (.noticeOutput true tag [code]) s = .next s

/-- AISLE HOLD, unicast or broadcast, starts the hold or restarts its deadline, and touches no lane
(R100, R73); AISLE RELEASE ends a hold in force with the freeze-end evaluations of R73, and changes
nothing while hold is off (R101). -/
def Obligations.AisleHoldAndRelease : Prop :=
  ∀ (s : State) (tag : Byte) (broadcast : Bool), s.TakesAtOnce →
    let held : State := if broadcast then s else s.answered tag [0x40, 0x00]
    let released : State := if broadcast then s else s.answered tag [0x41, 0x00]
    exec (.aisleHold broadcast tag []) s = .next { held with notice := { held.notice with
      holdDeadline :=
        some (s.backbone.clock + BitVec.ofNat 32 (s.mgmt.settings.holdLimit * 60000)) } }
    ∧ (s.notice.holdDeadline = none → exec (.aisleRelease broadcast tag []) s = .next released)
    ∧ (s.notice.holdDeadline.isSome = true →
      ∃ t, exec (.aisleRelease broadcast tag []) s = .next t
        ∧ ({ released with notice := { released.notice with
            holdDeadline := none } } : State).SameButLanes t
        ∧ ∀ n : Fin 128, t.lanes.get n = Lane.settleDue s.backbone.clock (s.lanes.get n)
            ((s.lanes.get n).holdEnded (s.notice.groups.get (s.lanes.get n).config.group)
              s.backbone.clock))

/-- COMMIT begins resolution over the staged image as it stands and is not answered yet (R25, R156; the
resolution is computed whole at the take, log 17, and `ResolutionFollowsCellOrder` says what it is).
RESTART places its REPLY with DONE and holds the engine until that reply is taken (R166). -/
def Obligations.CommitAndRestartHoldEngine : Prop :=
  ∀ (s : State) (tag : Byte), s.TakesAtOnce →
    exec (.commit tag []) s = .next { s with mgmt := { s.mgmt with
      engine := .committing tag (resolve s.staged s.active) } }
    ∧ exec (.restart tag []) s = .next { s with mgmt := { s.mgmt with
      engine := .restarting, reply := some ⟨tag, [0x4F, 0x00]⟩ } }

/-! ### The backbone -/

/-- The frame codec of Table 8-5 and R137: a frame within the layout passes the checks as the frame it is,
and only the bytes of a frame pass them. -/
def Obligations.FrameCodecRoundTrips : Prop :=
  (∀ f : Frame, f.payload.length ≤ 56 → Frame.decode f.encode = some f)
  ∧ ∀ (bytes : List Byte) (f : Frame), Frame.decode bytes = some f →
      bytes = f.encode ∧ f.payload.length ≤ 56

/-- A MANAGE frame for this station is the request command of its code (R138, R154, log 1); one for all
stations is delivered and forwarded as well. A payload that begins with a code of Table 9-1 is that code's
request, and a broadcast one with 04h, 24h, 40h or 41h that code's broadcast (R157), whichever command
carries it. -/
def Obligations.ManageFrameIsItsRequest : Prop :=
  (∀ (s : State) (tag : Byte) (fields : List Byte),
    (∀ code : RequestCode,
      exec (.unknownRequest tag (code.byte :: fields)) s = exec (code.command tag fields) s)
    ∧ exec (.broadcastDiscarded tag (0x04 :: fields)) s = exec (.noticeOutput true tag fields) s
    ∧ exec (.broadcastDiscarded tag (0x24 :: fields)) s = exec (.writeGroup true tag fields) s
    ∧ exec (.broadcastDiscarded tag (0x40 :: fields)) s = exec (.aisleHold true tag fields) s
    ∧ exec (.broadcastDiscarded tag (0x41 :: fields)) s = exec (.aisleRelease true tag fields) s)
  ∧ ∀ (s : State) (a src : BitVec 16) (tag : Byte), s.backbone.address = some a → a ≠ 0xFFFF →
    (∀ (code : RequestCode) (fields : List Byte), fields.length ≤ 55 →
      exec (.buFrameReceived (Frame.encode ⟨0x51, a, src, tag, code.byte :: fields⟩)) s =
        exec (code.command tag fields) s)
    ∧ (∀ payload : List Byte, payload.length ≤ 56 →
      exec (.buFrameReceived (Frame.encode ⟨0x51, a, src, tag, payload⟩)) s =
        exec (.unknownRequest tag payload) s)
    ∧ ∀ payload : List Byte, payload.length ≤ 56 →
        ∃ t u, exec (.broadcastDiscarded tag payload) s = .next t
          ∧ exec (.buFrameReceived (Frame.encode ⟨0x51, 0xFFFF, src, tag, payload⟩)) s = .next u
          ∧ u = if t.backbone.downFifo.length < 8 then
              { t with backbone := { t.backbone with
                downFifo := t.backbone.downFifo ++ [⟨0x51, 0xFFFF, src, tag, payload⟩] } }
            else { t with backbone := { t.backbone with
                downDrops := min 65535 (t.backbone.downDrops + 1) } }

/-- A reception at BU: a rejected one counts a fault and nothing else (R137); a frame beyond goes to the
down FIFO unchanged, or is dropped and counted where that is full (R138, R141); a frame for this
station that is neither MANAGE nor a TIME of length 4 counts a fault (R138, R139). A frame for all stations
of a kind that is not taken goes to the down FIFO unchanged, and a TIME or ENUMERATE of a wrong length
counts a fault as well (R139). An unassigned station forwards every frame but a well-formed ENUMERATE for
all stations, and counts no fault (R145; that it counts none for a wrong length is the model's choice,
log 28). -/
def Obligations.BuReceptionIsRouted : Prop :=
  ∀ s : State,
    (∀ bytes : List Byte, Frame.decode bytes = none →
      exec (.buFrameReceived bytes) s = .next s.buFaulted)
    ∧ (∀ f : Frame, f.payload.length ≤ 56 → f.destination ≠ 0xFFFF →
        s.backbone.address ≠ some f.destination →
        exec (.buFrameReceived f.encode) s = .next (s.forwarded f))
    ∧ (∀ f : Frame, f.payload.length ≤ 56 → f.destination ≠ 0xFFFF →
        s.backbone.address = some f.destination → f.kind ≠ 0x51 →
        (f.kind ≠ 0x55 ∨ f.payload.length ≠ 4) →
        exec (.buFrameReceived f.encode) s = .next s.buFaulted)
    ∧ (∀ f : Frame, f.payload.length ≤ 56 → f.destination = 0xFFFF →
        s.backbone.address.isSome = true →
        (f.kind ≠ 0x51 → f.kind ≠ 0x55 → f.kind ≠ 0x56 →
          exec (.buFrameReceived f.encode) s = .next (s.forwarded f))
        ∧ (f.kind = 0x55 ∧ f.payload.length ≠ 4 ∨ f.kind = 0x56 ∧ f.payload.length ≠ 2 →
          exec (.buFrameReceived f.encode) s = .next (s.buFaulted.forwarded f)))
    ∧ ∀ f : Frame, f.payload.length ≤ 56 → f.destination = 0xFFFF → s.backbone.address = none →
        f.kind ≠ 0x56 ∨ f.payload.length ≠ 2 →
        exec (.buFrameReceived f.encode) s = .next (s.forwarded f)

/-- A TIME frame for this station sets the clock, and every deadline that the new value reaches is
taken at once (R150, R15, R72, R73, R101); a value equal to the clock changes nothing. One for all stations
does the same and is forwarded unchanged (R138, R150). -/
def Obligations.TimeFrameSetsClock : Prop :=
  ∀ (s : State) (a src : BitVec 16) (tag : Byte) (v : Clock), s.backbone.address = some a →
    a ≠ 0xFFFF →
    let own : Frame := ⟨0x55, a, src, tag, be4 v.toNat⟩
    let all : Frame := ⟨0x55, 0xFFFF, src, tag, be4 v.toNat⟩
    ∃ t, exec (.buFrameReceived own.encode) s = .next t
      ∧ exec (.buFrameReceived all.encode) s = .next (t.forwarded all)
      ∧ (v = s.backbone.clock → t = s)
      ∧ (v ≠ s.backbone.clock →
        ({ s with
            backbone := { s.backbone with clock := v }
            notice := { s.notice with
              holdDeadline := t.notice.holdDeadline } } : State).SameButLanes t
        ∧ (∀ d, t.notice.holdDeadline = some d ↔
            s.notice.holdDeadline = some d ∧ (v - d).toInt < 0)
        ∧ ∀ n : Fin 128, let l := s.lanes.get n
            let zeroOut : Prop := ∃ d, l.zeroDeadline = some d ∧ 0 ≤ (v - d).toInt
            let replenishOut : Prop := ∃ d, l.replenishDeadline = some d ∧ 0 ≤ (v - d).toInt
            ∃ l1 l2 l3 : Lane,
              (zeroOut → l1 = { l with
                zeroDeadline := none, zeroResult := some .timeout
                kinds := { l.kinds with zero := true } })
              ∧ (¬ zeroOut → l1 = l)
              ∧ (replenishOut → l2 = { l1 with replenishDeadline := none })
              ∧ (¬ replenishOut → l2 = l1)
              ∧ l3 = (if l.state ≠ .unbound ∧ l.state ≠ .acquiring
                    ∧ (l.replenishDeadline.isSome = true ∨ s.notice.holdDeadline.isSome = true)
                    ∧ l2.replenishDeadline = none ∧ t.notice.holdDeadline = none
                  then l2.freezeEnded (s.notice.groups.get l.config.group) v else l2)
              ∧ t.lanes.get n = Lane.settleDue v l l3)

/-- An ENUMERATE for all stations: an unassigned station takes the address it carries and passes the
next one on (R147); an assigned one keeps its own and raises the next field (R148). The frame is dropped
and counted where the down FIFO is full (R141). -/
def Obligations.EnumerateGivesAddresses : Prop :=
  ∀ (s : State) (src : BitVec 16) (tag : Byte) (next : Nat), next < 65536 →
    let frame (n : Nat) : Frame := ⟨0x56, 0xFFFF, src, tag, be2 n⟩
    let forwarded (address : Option (BitVec 16)) (n : Nat) : State :=
      if s.backbone.downFifo.length < 8 then
        { s with backbone := { s.backbone with
          address := address, downFifo := s.backbone.downFifo ++ [frame n] } }
      else { s with backbone := { s.backbone with
          address := address, downDrops := min 65535 (s.backbone.downDrops + 1) } }
    let command : Instr := .buFrameReceived (frame next).encode
    (s.backbone.address = none →
      (1 ≤ next → next ≤ 998 →
        exec command s = .next (forwarded (some (BitVec.ofNat 16 next)) (next + 1)))
      ∧ (next = 999 → exec command s = .next (forwarded (some 999) 0))
      ∧ (next = 0 ∨ 1000 ≤ next → exec command s = .next (forwarded none next)))
    ∧ ∀ a : BitVec 16, s.backbone.address = some a → a.toNat ≤ 999 →
        (next < a.toNat + 1 → exec command s = .next (forwarded (some a) (a.toNat + 1)))
        ∧ (a.toNat + 1 ≤ next → exec command s = .next (forwarded (some a) next))

/-- The BD port: a frame that arrives joins the up FIFO unchanged or is dropped and counted, a rejected
reception counts a fault (R137, R140, R141), and the transmitter takes the oldest frame of the down
FIFO (R136). With nothing to send it sends nothing. -/
def Obligations.BdPortForwards : Prop :=
  ∀ s : State,
    (∀ f : Frame, f.payload.length ≤ 56 →
      exec (.bdFrameReceived f.encode) s = .next
        (if s.backbone.upFifo.length < 8 then
          { s with backbone := { s.backbone with upFifo := s.backbone.upFifo ++ [f] } }
        else { s with backbone := { s.backbone with
          upDrops := min 65535 (s.backbone.upDrops + 1) } }))
    ∧ (∀ bytes : List Byte, Frame.decode bytes = none →
      exec (.bdFrameReceived bytes) s = .next { s with backbone := { s.backbone with
        bdFaults := min 65535 (s.backbone.bdFaults + 1) } })
    ∧ (∀ (f : Frame) (rest : List Frame), s.backbone.downFifo = f :: rest →
      exec .bdTransmit s = .next { s with backbone := { s.backbone with
        downFifo := rest, bdTx := some f } })
    ∧ (s.backbone.downFifo = [] → exec .bdTransmit s = .next s)

/-- The upstream arbiter takes the oldest frame of the up FIFO while the streak is below the forward
burst, and also when no local source offers; the streak counts the takes and returns to 0 when one
empties the FIFO (R142, R143). With no source offering it waits. -/
def Obligations.ArbiterTakesForwardedFrame : Prop :=
  ∀ s : State,
    let noLocal : Prop := s.backbone.address = none
      ∨ (s.mgmt.reply = none ∧ s.NoEndedRelay ∧ ¬ s.NoticeOffers ∧ s.backbone.mirror = none)
    (∀ (f : Frame) (rest : List Frame), s.backbone.upFifo = f :: rest →
      s.backbone.streak < s.mgmt.settings.burst ∨ noLocal →
      exec .upstreamChoice s = .next { s with backbone := { s.backbone with
        upFifo := rest
        buTx := some f
        streak := if rest = [] then 0 else min 8 (s.backbone.streak + 1) } })
    ∧ (s.backbone.upFifo = [] → noLocal → exec .upstreamChoice s = .next s)

/-- When the local sources have their turn, the arbiter takes the first that offers in the order reply
slot, relay source, notice source, mirror slot; the taken source gives up its frame, which carries
destination 0 and the tag of R144, and the streak returns to 0 (R142, R143, R114, R119, R159). The take of
a REPLY frees the engine, which takes what waits in the intake FIFO (R156, R159). The notice source is
`TakenNoticeIsSent`. -/
def Obligations.ArbiterTakesLocalFrame : Prop :=
  ∀ (s : State) (a : BitVec 16), s.LocalTurn → s.backbone.address = some a →
    (∀ r : Reply, s.mgmt.reply = some r → s.mgmt.engine ≠ .restarting →
      let sent : State := { s with
        backbone := { s.backbone with
          streak := 0, buTx := some ⟨0x52, 0, a, r.tag, r.payload⟩ }
        mgmt := { s.mgmt with reply := none } }
      (s.mgmt.intake = [] ∨ s.mgmt.engine ≠ .idle → exec .upstreamChoice s = .next sent)
      ∧ (s.mgmt.engine = .idle →
        ∃ t, exec .upstreamChoice s = .next t
          ∧ ({ sent with mgmt := { sent.mgmt with intake := [] } } : State).TakesWaiting
            s.mgmt.intake t))
    ∧ (s.mgmt.reply = none →
      ∀ (g : Segment) (r : Relay), r ∈ (s.sweep g).relays → r.outcome ≠ none →
        (∀ (h : Segment) (q : Relay), q ∈ (s.sweep h).relays → q.outcome ≠ none →
          (h, q) ≠ (g, r) → r.acceptance < q.acceptance) →
        exec .upstreamChoice s = .next
          { s.setSweep g { s.sweep g with
              relays := (s.sweep g).relays.filter (fun q => q.acceptance != r.acceptance) } with
            backbone := { s.backbone with
              streak := 0
              buTx := some ⟨0x57, 0, a, r.tag, [byteOf g.code, r.address.setWidth 8,
                byteOf (relayOutcomeCode r.outcome), byteOf r.failed]⟩ } })
    ∧ (s.mgmt.reply = none → s.NoEndedRelay → ¬ s.NoticeOffers →
      ∀ p : List Byte, s.backbone.mirror = some p →
        exec .upstreamChoice s = .next { s with backbone := { s.backbone with
          streak := 0, mirror := none, buTx := some ⟨0x54, 0, a, 0, p⟩ } })

/-- The take of the notice source (R90, R92, R93): the entry chosen by the queue order, the NOTICE built
from the record before its kinds are cleared, alert announced set where BAND was among them, the spacing
restarted, and the deferred subject first in the queue order admitted in the entry's place. -/
def Obligations.TakenNoticeIsSent : Prop :=
  ∀ (s : State) (a : BitVec 16), s.LocalTurn → s.backbone.address = some a → s.mgmt.reply = none →
    s.NoEndedRelay → s.NoticeOffers → s.NoticesConsistent →
    ∃ (t : State) (e : QueueEntry), exec .upstreamChoice s = .next t ∧ e ∈ s.notice.queue
      ∧ (s.mgmt.settings.queueOrder = .arrival →
          ∀ x ∈ s.notice.queue, e.number ≤ x.number)
      ∧ (s.mgmt.settings.queueOrder = .priority →
          ∀ x ∈ s.notice.queue, s.priority x.subject ≤ s.priority e.subject)
      ∧ (s.mgmt.settings.queueOrder = .priority →
          (∃ base : Clock, ∀ x ∈ s.notice.queue,
            (s.dueSince x.subject - base).toNat < 2147483648) →
          ∀ x ∈ s.notice.queue, s.priority x.subject = s.priority e.subject →
            0 ≤ (s.dueSince x.subject - s.dueSince e.subject).toInt
            ∧ (s.dueSince x.subject = s.dueSince e.subject → e.subject.number ≤ x.subject.number))
      ∧ t.pending = s.pending ∧ t.mgmt = s.mgmt ∧ t.staged = s.staged ∧ t.active = s.active
      ∧ t.sweepA = s.sweepA ∧ t.sweepB = s.sweepB ∧ t.sequences = s.sequences
      ∧ t.nextAcceptance = s.nextAcceptance
      ∧ t.notice = { s.notice with
          queue := t.notice.queue, deferred := t.notice.deferred
          nextAdmission := t.notice.nextAdmission, spacing := some 0 }
      ∧ (s.notice.deferred = [] →
          t.notice.queue = s.notice.queue.filter (fun x => x.subject != e.subject)
          ∧ t.notice.deferred = [] ∧ t.notice.nextAdmission = s.notice.nextAdmission)
      ∧ (s.notice.deferred ≠ [] → ∃ x ∈ s.notice.deferred,
          t.notice.queue = s.notice.queue.filter (fun y => y.subject != e.subject)
              ++ [⟨x, s.notice.nextAdmission⟩]
          ∧ t.notice.deferred = s.notice.deferred.filter (fun y => y != x)
          ∧ t.notice.nextAdmission = s.notice.nextAdmission + 1
          ∧ (s.mgmt.settings.queueOrder = .priority →
              ∀ y ∈ s.notice.deferred, s.priority y ≤ s.priority x)
          ∧ (s.DueComparable s.notice.deferred →
              ∀ y ∈ s.notice.deferred, y ≠ x → s.AdmittedBefore x y))
      ∧ (∀ n : Fin 128, e.subject = .lane n → let l := s.lanes.get n
          t.nodes = s.nodes
          ∧ t.lanes = s.lanes.set n { l with
              kinds := { band := false, count := false, zero := false, capture := false }
              due := false
              alertAnnounced := l.alertAnnounced || l.kinds.band }
          ∧ t.backbone = { s.backbone with
              streak := 0
              buTx := some ⟨0x53, 0, a, 0, be4 s.backbone.clock.toNat
                ++ [byteOf n.val,
                  byteOf (packBits [l.kinds.band, l.kinds.count, l.kinds.zero, l.kinds.capture]),
                  byteOf l.config.group.val] ++ be4 l.config.product.toNat
                ++ [byteOf l.state.code] ++ be2 l.count
                ++ be4 (BitVec.ofInt 32 (l.settled.getD 0)).toNat
                ++ [byteOf l.band.code, byteOf l.refBand.code,
                  byteOf (packBits [l.agree, l.alertPending, l.alertAnnounced, l.beaconLit,
                    l.overfill, l.feedDoubtful, l.captureOverflow, l.settled.isSome]),
                  byteOf (packBits [l.raiseTime.isSome])] ++ be4 (l.raiseTime.getD 0).toNat
                ++ [byteOf (zeroResultCode l.zeroResult)]⟩ })
      ∧ ∀ i : Fin 64, e.subject = .node i → let n := s.nodes.get i
          t.lanes = s.lanes
          ∧ t.nodes = s.nodes.set i { n with statePending := false, due := false }
          ∧ t.backbone = { s.backbone with
              streak := 0
              buTx := some ⟨0x53, 0, a, 0, be4 s.backbone.clock.toNat
                ++ [byteOf (128 + i.val),
                  byteOf (packBits [false, false, false, false, n.statePending]),
                  byteOf (segmentOf i).code, (s.active.sweep.get i).address.setWidth 8,
                  byteOf n.state.code, byteOf n.score, byteOf n.missRun, byteOf n.probeRun,
                  byteOf (packBits [decide (96 ≤ n.score), n.releaseGranted, n.corruptSeen,
                    n.malformedSeen, n.missedSeen])]⟩ }

/-! ### Deadlines and timers -/

/-- The clock reaches a lane's zeroing deadline: zeroing ends with TIMEOUT, and the rest of the record
is unchanged (R15, R149). It reaches a lane's replenish deadline: the deadline clears, and the freeze-end
evaluation runs unless another freeze cause is in force (R70, R72). It reaches the hold deadline: aisle
hold ends, with the freeze-end evaluations of R73 (R101). That the whole machine's time up to the deadline
passes first is the model's choice (log 3). -/
def Obligations.DeadlinesAreTaken : Prop :=
  ∀ (s : State) (d : Clock),
    let u := s.elapse (if 0 ≤ (s.backbone.clock - d).toInt then 0
      else (d - s.backbone.clock).toNat)
    0 ≤ (u.backbone.clock - d).toInt
    ∧ (∀ n : Fin 128, let l := s.lanes.get n
      let cleared : Lane := { l with replenishDeadline := none }
      (l.zeroDeadline = some d → ∃ t, exec (.zeroingDeadlineReached n) s = .next t
        ∧ u.SameButLanes t
        ∧ (∀ m, m ≠ n → t.lanes.get m = s.lanes.get m)
        ∧ t.lanes.get n = Lane.settleDue u.backbone.clock l { l with
            zeroDeadline := none, zeroResult := some .timeout
            kinds := { l.kinds with zero := true } })
      ∧ (l.replenishDeadline = some d → ∃ t, exec (.replenishDeadlineReached n) s = .next t
        ∧ u.SameButLanes t
        ∧ (∀ m, m ≠ n → t.lanes.get m = s.lanes.get m)
        ∧ t.lanes.get n = Lane.settleDue u.backbone.clock l
            (if l.state = .unbound ∨ l.state = .acquiring ∨ s.notice.holdDeadline.isSome = true then
              cleared
            else cleared.freezeEnded (s.notice.groups.get l.config.group) u.backbone.clock)))
    ∧ (s.notice.holdDeadline = some d → ∃ t, exec .holdDeadlineReached s = .next t
      ∧ ({ u with notice := { u.notice with holdDeadline := none } } : State).SameButLanes t
      ∧ ∀ n : Fin 128, t.lanes.get n = Lane.settleDue u.backbone.clock (s.lanes.get n)
          ((s.lanes.get n).holdEnded (s.notice.groups.get (s.lanes.get n).config.group)
            u.backbone.clock))

/-- The notice spacing elapses (R91), and a flashing beacon's phase of 500 ms ends with its line
changing level (R96). What remains of the measure passes first (log 3). -/
def Obligations.SpacingAndBeaconRhythm : Prop :=
  ∀ s : State,
    (∀ e, s.notice.spacing = some e →
      ∃ t, exec .noticeSpacingElapsed s = .next t ∧ t = s.elapse (s.mgmt.settings.spacing - e)
        ∧ ∃ e', t.notice.spacing = some e' ∧ s.mgmt.settings.spacing ≤ e')
    ∧ ∀ (b : Fin 4) (high : Bool) (e : Nat), s.notice.beacons.get b = .flashing high e → e ≤ 500 →
        let u := s.elapse (500 - e)
        exec (.beaconPhaseToggle b) s = .next { u with notice := { u.notice with
          beacons := u.notice.beacons.set b (.flashing (!high) 0) } }

/-- The aisle key input (R97, R98, R99): a change of level starts the 20 ms of the new level or
abandons the one running; a completed press sets the key flag and starts the hold timer; a completed
release before the hold timer is a short press, which clears beacon lit on every lane and nothing else
in them (R77); a release after a long press does nothing more. That what remains of the 20 ms passes first
for the whole machine is the model's choice (log 3). -/
def Obligations.AisleKeyDebounces : Prop :=
  ∀ s : State,
    (∀ low : Bool, low ≠ s.notice.akeyLow →
      exec (.akeyLevelChange low) s = .next { s with notice := { s.notice with
        akeyLow := low
        debounce := if low = (s.notice.key != .idle) then none else some 0 } })
    ∧ ∀ e, s.notice.debounce = some e →
        let u := s.elapse (20 - e)
        (s.notice.akeyLow = true → s.notice.key = .idle →
          exec .debounceExpiry s = .next { u with notice := { u.notice with
            debounce := none, key := .pressed 0, keyFlag := true } })
        ∧ (s.notice.akeyLow = false → s.notice.key = .long →
          exec .debounceExpiry s = .next { u with notice := { u.notice with
            debounce := none, key := .idle } })
        ∧ ∀ k, s.notice.akeyLow = false → s.notice.key = .pressed k →
          ∃ t, exec .debounceExpiry s = .next t
            ∧ t = { u with
                lanes := s.lanes.map (fun l => { l with beaconLit := false })
                notice := { u.notice with
                  debounce := none, key := .idle, beacons := t.notice.beacons } }
            ∧ ∀ b : Fin 4, t.notice.beacons.get b = .off

/-- The hold timer expires with the key pressed: a long press, which starts aisle hold where it is off
and ends it where it is in force (R98, R100, R101), with the freeze-end evaluations of R73. That what
remains of the 4,000 ms passes first for the whole machine is the model's choice (log 3). -/
def Obligations.LongPressTogglesHold : Prop :=
  ∀ (s : State) (e : Nat), s.notice.key = .pressed e →
    let u := s.elapse (4000 - e)
    (s.notice.holdDeadline = none →
      exec .holdTimerExpiry s = .next { u with notice := { u.notice with
        key := .long
        holdDeadline :=
          some (u.backbone.clock + BitVec.ofNat 32 (s.mgmt.settings.holdLimit * 60000)) } })
    ∧ (s.notice.holdDeadline.isSome = true →
      ∃ t, exec .holdTimerExpiry s = .next t
        ∧ ({ u with notice := { u.notice with
            key := .long, holdDeadline := none } } : State).SameButLanes t
        ∧ ∀ n : Fin 128, t.lanes.get n = Lane.settleDue u.backbone.clock (s.lanes.get n)
            ((s.lanes.get n).holdEnded (s.notice.groups.get (s.lanes.get n).config.group)
              u.backbone.clock))

/-! ### Shelf segments -/

/-- A sweep timer expires (R105, R107): between sweeps a sweep begins at once, during one it is owed.
What remains of the period passes first (log 3); a timer that already stands expired begins a sweep
between sweeps and does not expire again during one. -/
def Obligations.SweepTimerStartsOrOwes : Prop :=
  ∀ (s : State) (g : Segment),
    let u := if (s.sweep g).timerExpired then s
      else s.elapse (s.mgmt.settings.period g - (s.sweep g).sinceStart)
    ((s.sweep g).visit = none →
      ∃ e, exec (.sweepTimerExpiry g) s = .next (u.setSweep g e)
        ∧ SweepEngine.Begun s.active g (u.sweep g) e)
    ∧ ((s.sweep g).visit.isSome = true → (s.sweep g).timerExpired = false →
      exec (.sweepTimerExpiry g) s = .next
        (u.setSweep g { u.sweep g with owed := true, timerExpired := true }))
    ∧ ((s.sweep g).visit.isSome = true → (s.sweep g).timerExpired = true →
      exec (.sweepTimerExpiry g) s = .next s)

/-- The events of a shelf line that decide no outcome (R108, R109, R116, R122): the end of a
transmission opens the window of the segment's length; a reception that begins in the window is the
reply's, any other belongs to no phase; the end of one of those is discarded and lets a waiting frame be
sent. That a reception begun while a frame waits or is being sent belongs to no phase, and that none begins
while one goes on, is the model's reading (log 14, DEDUCED). -/
def Obligations.ShelfLineEvents : Prop :=
  ∀ (s : State) (g : Segment),
    (∀ v, (s.sweep g).visit = some v → v.stage = .sending →
      exec (.shelfTransmissionEnd g) s = .next (s.setSweep g { s.sweep g with
        visit := some { v with stage := .window 0 (s.mgmt.settings.window g) } }))
    ∧ (∀ v e k, (s.sweep g).visit = some v → v.stage = .window e k → (s.sweep g).stray = false →
      exec (.shelfReceptionBegins g) s = .next (s.setSweep g { s.sweep g with
        visit := some { v with stage := .receiving } }))
    ∧ ((s.sweep g).visit = none →
      exec (.shelfReceptionBegins g) s = .next (s.setSweep g { s.sweep g with stray := true }))
    ∧ (∀ v, (s.sweep g).visit = some v → v.stage = .sending ∨ v.stage = .waiting →
      exec (.shelfReceptionBegins g) s = .next (s.setSweep g { s.sweep g with stray := true }))
    ∧ (∀ v e k, (s.sweep g).visit = some v →
      v.stage = .receiving ∨ (v.stage = .window e k ∧ (s.sweep g).stray = true) →
      exec (.shelfReceptionBegins g) s = .next s)
    ∧ ((s.sweep g).visit = none → (s.sweep g).stray = true →
      exec (.shelfFrameDiscarded g) s = .next (s.setSweep g { s.sweep g with stray := false }))
    ∧ ∀ v, (s.sweep g).visit = some v → (s.sweep g).stray = true →
        exec (.shelfFrameDiscarded g) s = .next (s.setSweep g { s.sweep g with
          stray := false
          visit := some { v with stage := if v.stage = .waiting then .sending else v.stage } })

/-- A reply window that expires is a missed outcome of its phase (R108, R112, R117, R126). In the poll
phase nothing else happens; in the relay phase the relay in delivery takes a failed attempt first, and the
third ends it UNANSWERED. A node that goes ABSENT takes the counting lanes it feeds BLIND and ends its open
relays (R131, R7, R118); every other lane's record is unchanged. A visit whose slot a COMMIT changed only
ends (R28). That what remains of the window passes first is the model's choice (log 3), and so is that the
beacons follow all lanes that the report touches together (log 26). -/
def Obligations.WindowExpiryIsMissed : Prop :=
  ∀ (s : State) (g : Segment) (v : Visit) (e k : Nat), (s.sweep g).visit = some v →
    v.stage = .window e k → segmentOf v.slot = g →
    let u := s.elapse (k - e)
    (v.changed = false → v.relay = none →
      ∃ t, exec (.replyWindowExpiry g) s = .next t
        ∧ u.TookOutcome t g v .missed id (s.sweep g).relays)
    ∧ (∀ (before after : List Relay) (r : Relay), v.changed = false → v.relay = some r.acceptance →
      (s.sweep g).relays = before ++ [r] ++ after → r.outcome = none →
      (∀ q ∈ before ++ after, q.acceptance ≠ r.acceptance) →
      ∃ t, exec (.replyWindowExpiry g) s = .next t
        ∧ u.TookOutcome t g v .missed id (before ++ [r.attemptFailed] ++ after))
    ∧ (v.changed = true →
      ∃ t, exec (.replyWindowExpiry g) s = .next t ∧ u.DiscardedOutcome t g v)

/-- A good READING in the poll phase, step by step (R110 to R116): the node takes a good outcome and a change
of its state is reported (R131, R10); the sequence is accepted; the bay key event gives every bound lane
that the node feeds its replenish deadline and darkens it (R113, R71); a reading that is not stale, of a
node that is not CUT_OFF, is stored in its cells (R31 to R33), a lane whose fresh set it completes takes the
sample (R34, R8; `LaneTakesSample`) and is judged (R66, R68; `AgreementIsJudgedOnce`), and the reading is
mirrored where the visit's flag is set; the beacons follow the bay key event and then the capture (R96; that
the lanes of one step count together, log 26, and that a set key flag is mirrored as 01h, log 29, is the
model's choice); the oldest open relay for the node is
sent in the same visit. -/
def Obligations.GoodReadingIsHandedOn : Prop :=
  ∀ (s : State) (g : Segment) (v : Visit) (sequence flags : Byte) (raws : List (BitVec 24 × CellStatus)),
    (s.sweep g).visit = some v → v.stage = .receiving → v.relay = none → v.changed = false →
    raws.length = v.cellCount → v.cellCount ≤ 4 → segmentOf v.slot = g →
    let body := [v.address.setWidth 8, 0x22, sequence, flags, byteOf v.cellCount]
      ++ raws.flatMap (fun c => be3 c.1.toNat ++ [byteOf c.2.code])
    let n := s.nodes.get v.slot
    let n' := n.judge s.mgmt.settings.absentLimit (s.active.sweep.get v.slot).autoRecover .good
    let usable : Bool := n'.state != .cutOff
    let taken : Bool := usable && s.sequences.get v.slot != some sequence
    let key : Bool := usable && flags.getLsbD 0
    let mirror : List Byte := be4 s.backbone.clock.toNat
      ++ [byteOf v.slot.val, byteOf g.code, v.address.setWidth 8, sequence,
        yesByte (flags.getLsbD 0), byteOf v.cellCount]
      ++ raws.flatMap (fun c => be3 c.1.toNat ++ [byteOf c.2.code])
    let fed (l : Lane) : Bool := l.cells.any (fun c => c.ref.slot == v.slot)
    let deadline (l : Lane) : Clock :=
      let new := s.backbone.clock + BitVec.ofNat 32 (l.config.replenish * 1000)
      match l.replenishDeadline with
      | some old => if 0 < (old - new).toInt then old else new
      | none => new
    let pressed (l : Lane) : Lane :=
      if key = true ∧ fed l = true ∧ l.bound = true ∧ l.config.replenish ≠ 0 then
        { l with replenishDeadline := some (deadline l), beaconLit := false }
      else l
    let stored (c : LaneCell) : LaneCell :=
      if c.ref.slot = v.slot then
        match raws[c.ref.cell.val]? with
        | some x => { c with
            fresh := true
            value := some (convert (s.active.calibration.get (calibrationIndex c.ref))
              ⟨x.1.toInt, x.2⟩) }
        | none => c
      else c
    ∃ t, exec (.readingReceived g (body ++ [crc8 body])) s = .next t
      ∧ ({ s with backbone := t.backbone
                  sequences := s.sequences.set v.slot (some sequence) } : State).SameButOutcome g t
      ∧ t.backbone = { s.backbone with
          mirror := if taken = true ∧ v.mirror = true then some mirror else s.backbone.mirror }
      ∧ (∀ i, i ≠ v.slot → t.nodes.get i = s.nodes.get i)
      ∧ t.nodes.get v.slot = Node.settleDue s.backbone.clock n { n' with
          statePending := n.statePending || n'.state != n.state }
      ∧ (∀ m : Fin 128,
          let l := s.lanes.get m
          let reported : Lane := if n'.state ≠ n.state ∧ fed l = true then l.doubted t.nodes else l
          let keyed := pressed reported
          let captured : Lane := { keyed with cells := keyed.cells.map stored }
          let sum : Int := (captured.cells.map (fun c => (c.value.map CellValue.grams).getD 0)).sum
          let valid : Bool :=
            captured.cells.all (fun c => c.value.map CellValue.status == some .valid)
          let sampled : Lane :=
            if ∀ c ∈ captured.cells, c.fresh = true then
              Lane.takeSample t.nodes sum valid { captured with
                cells := captured.cells.map (fun c => { c with fresh := false }) }
            else captured
          t.lanes.get m = Lane.settleDue s.backbone.clock l
            (if taken = true
                ∧ ∃ c ∈ l.cells, c.ref.slot = v.slot ∧ c.ref.cell.val < raws.length then
              s.agreed keyed sampled
            else keyed))
      ∧ t.BeaconsFollow
      ∧ (∀ b : Fin 4, (t.notice.beacons.get b).isFlashing = true →
          t.notice.beacons.get b =
            if (s.notice.beacons.get b).isFlashing = true
                ∧ (key = true → ∃ m : Fin 128, let l := pressed (s.lanes.get m)
                  l.beaconLit = true ∧ (s.notice.groups.get l.config.group).beacon = b
                    ∧ 4 ≤ (s.notice.groups.get l.config.group).priority)
            then s.notice.beacons.get b else .flashing true 0)
      ∧ (t.sweep g).relays = (s.sweep g).relays
      ∧ (n'.state = .cutOff ∨ (∀ r ∈ (s.sweep g).relays, r.outcome = none → r.address ≠ v.address) →
          SweepEngine.MovedOn s.active g v.slot (s.sweep g) (t.sweep g))
      ∧ ∀ r ∈ (s.sweep g).relays, n'.state ≠ .cutOff → r.outcome = none → r.address = v.address →
          (∀ q ∈ (s.sweep g).relays, q.outcome = none → q.address = v.address → q ≠ r →
            r.acceptance < q.acceptance) →
          let frame := [v.address.setWidth 8, 0x23, byteOf r.message.length] ++ r.message
          t.sweep g = { s.sweep g with visit := some { v with
            relay := some r.acceptance
            frame := frame ++ [crc8 frame]
            stage := if (s.sweep g).stray then .waiting else .sending } }

/-- A poll-phase reply that fails a check of R110, judged on its first 32 bytes (R109), delivers nothing:
no sequence, key flag, cell value or mirror of it is used. One that fails the first two checks is corrupt
and one that fails another is malformed; the node takes that outcome, and the visit ends. A node that goes
CUT_OFF takes the counting lanes it feeds BLIND and ends its open relays (R125, R128, R131, R7, R118); every
other lane's record is unchanged. Whatever reply of a slot that a COMMIT has changed is discarded (R28,
R112). That bytes after the cut hold back no later frame (log 24), and that the beacons follow the lanes
together (log 26), is the model's choice. -/
def Obligations.FailedReadingDeliversNothing : Prop :=
  ∀ (s : State) (g : Segment) (v : Visit) (bytes : List Byte), (s.sweep g).visit = some v →
    v.stage = .receiving → v.relay = none → segmentOf v.slot = g →
    let b := bytes.take 32
    let corrupt : Prop := b.length < 3 ∨ b.getLast? ≠ some (crc8 b.dropLast)
    let malformed : Prop := ¬ corrupt ∧ (b.getD 1 0 ≠ 0x22 ∨ b.getD 0 0 ≠ v.address.setWidth 8
      ∨ (b.getD 4 0).toNat ≠ v.cellCount ∨ b.length ≠ 6 + 4 * v.cellCount
      ∨ ∃ k < v.cellCount, 2 < (b.getD (8 + 4 * k) 0).toNat)
    (v.changed = false → corrupt →
      ∃ t, exec (.readingReceived g bytes) s = .next t
        ∧ s.TookOutcome t g v .corrupt id (s.sweep g).relays)
    ∧ (v.changed = false → malformed →
      ∃ t, exec (.readingReceived g bytes) s = .next t
        ∧ s.TookOutcome t g v .malformed id (s.sweep g).relays)
    ∧ (v.changed = true →
      ∃ t, exec (.readingReceived g bytes) s = .next t ∧ s.DiscardedOutcome t g v)

/-- A well-formed RELAY ANSWER ends the relay in delivery with DELIVERED or REFUSED (R117); a delivered
one that disturbs readings clears the windows of the lanes the node feeds, a STEADY one entering MOVING
(R6; that a BLIND lane's fresh set is emptied too is the model's reading, log 15). An answer that fails a
check, judged on its first 32 bytes, is corrupt or malformed: a failed attempt, of which the third ends the
relay UNANSWERED. In each case the node then takes the outcome and the visit ends. An answer in a visit
whose slot a COMMIT has changed is discarded (R28). That bytes after the cut hold back no later frame
(log 24), and that the beacons follow the lanes together (log 26), is the model's choice. -/
def Obligations.RelayAnswerEndsRelay : Prop :=
  ∀ (s : State) (g : Segment) (v : Visit), (s.sweep g).visit = some v →
    v.stage = .receiving → segmentOf v.slot = g →
    (∀ (before after : List Relay) (r : Relay), v.changed = false → v.relay = some r.acceptance →
      (s.sweep g).relays = before ++ [r] ++ after → r.outcome = none →
      (∀ q ∈ before ++ after, q.acceptance ≠ r.acceptance) →
      (∀ accept : Bool,
        let answer : Byte := if accept then 0x01 else 0x02
        let outcome : RelayOutcome := if accept then .delivered else .refused
        let bytes := [v.address.setWidth 8, 0x24, answer]
        let disturbed (l : Lane) : Lane :=
          if accept = true ∧ r.disturbs = true ∧ l.state ≠ .unbound
              ∧ ∃ c ∈ l.cells, c.ref.slot = v.slot then
            { l.emptied with state := if l.state = .steady then .moving else l.state }
          else l
        ∃ t, exec (.relayAnswerReceived g (bytes ++ [crc8 bytes])) s = .next t
          ∧ s.TookOutcome t g v .good disturbed
            (before ++ [{ r with outcome := some outcome }] ++ after))
      ∧ ∀ bytes : List Byte,
          let b := bytes.take 32
          let corrupt : Prop := b.length < 3 ∨ b.getLast? ≠ some (crc8 b.dropLast)
          let malformed : Prop := ¬ corrupt ∧ (b.getD 1 0 ≠ 0x24
            ∨ b.getD 0 0 ≠ v.address.setWidth 8 ∨ b.length ≠ 4
            ∨ (b.getD 2 0 ≠ 0x01 ∧ b.getD 2 0 ≠ 0x02))
          (corrupt → ∃ t, exec (.relayAnswerReceived g bytes) s = .next t
            ∧ s.TookOutcome t g v .corrupt id (before ++ [r.attemptFailed] ++ after))
          ∧ (malformed → ∃ t, exec (.relayAnswerReceived g bytes) s = .next t
            ∧ s.TookOutcome t g v .malformed id (before ++ [r.attemptFailed] ++ after)))
    ∧ ∀ (k : Nat) (bytes : List Byte), v.changed = true → v.relay = some k →
        ∃ t, exec (.relayAnswerReceived g bytes) s = .next t ∧ s.DiscardedOutcome t g v

/-! ### Functions of the chapters -/

/-- How a node's record takes an outcome (R123 to R129). -/
def Obligations.NodeTakesOutcome : Prop :=
  ∀ (n : Node) (absentLimit : Nat) (autoRecover : Bool),
    let k (o : VisitOutcome) : Node := n.judge absentLimit autoRecover o
    let run := min 255 (n.missRun + 1)
    let score := if n.score < 128 then n.score + 8 else n.score
    (n.state ≠ .cutOff →
      k .good = { n with
        score := n.score - 1
        missRun := 0
        state := if n.state = .active ∨ n.score - 1 ≤ 127 then .active else .doubtful }
      ∧ (255 < n.score + 8 → k .corrupt = { n with
          state := .cutOff
          score := 0
          probeRun := 0
          releaseGranted := false
          corruptSeen := true
          recovery := if autoRecover then .auto else .release })
      ∧ (n.score + 8 ≤ 255 → k .corrupt = { n with
          score := n.score + 8
          corruptSeen := true
          state := if n.state = .active ∧ 128 ≤ n.score + 8 then .doubtful else n.state })
      ∧ k .malformed = { k .corrupt with malformedSeen := true, corruptSeen := n.corruptSeen }
      ∧ k .missed = { n with
          score := score
          missRun := run
          missedSeen := true
          state :=
            if n.state ≠ .absent ∧ absentLimit ≤ run then .absent
            else if n.state = .active ∧ 128 ≤ score then .doubtful
            else n.state })
    ∧ (n.state = .cutOff →
      (n.probeRun < 63 ∨ (n.probeRun = 63 ∧ n.recovery = .release ∧ n.releaseGranted = false) →
        k .good = { n with probeRun := n.probeRun + 1 })
      ∧ (n.probeRun = 63 → n.recovery = .auto ∨ n.releaseGranted = true →
        k .good = { n with
          state := .active
          score := 0
          missRun := 0
          probeRun := 0
          releaseGranted := false })
      ∧ (64 ≤ n.probeRun → k .good = n)
      ∧ k .corrupt = { n with probeRun := 0, corruptSeen := true }
      ∧ k .malformed = { n with probeRun := 0, malformedSeen := true }
      ∧ k .missed = { n with probeRun := 0, missedSeen := true })

/-- Rounding (R37): the result is a nearest whole number to a / b, and of two nearest it is the one of
greater magnitude. A captured cell's converted value is rounded so, and its status follows from its size
(R32). -/
def Obligations.RoundingAndConversion : Prop :=
  (∀ (a : Int) (b : Nat), 0 < b →
    let q := roundDiv a b
    2 * (a - q * b).natAbs ≤ b
    ∧ (2 * (a - q * b).natAbs = b → a.natAbs < q.natAbs * b)
    ∧ roundDiv (-a) b = -q)
  ∧ ∀ (k : Calibration) (raw : Int) (status : CellStatus),
    let v := convert k ⟨raw, status⟩
    v.grams = roundDiv ((raw - k.zero) * k.gain) 65536
    ∧ (v.status = .valid ↔ status = .valid ∧ -2000000 ≤ v.grams ∧ v.grams ≤ 2000000)
    ∧ (v.status = .fault ↔ status = .fault)

/-- What a lane does with a sample (R7, R8, R38 to R44, R50 to R54, R14): a BLIND lane begins to acquire with
it, a sample with a bad cell sends a counting lane BLIND, and a good one joins the window; a full window
within the settle band gives a settled result, which zeroing takes while it is in progress and counting
otherwise. -/
def Obligations.LaneTakesSample : Prop :=
  ∀ (l : Lane) (nodes : Table Node 64) (sum : Int) (valid : Bool),
    let k := l.takeSample nodes sum valid
    let stale := l.cells.map (fun c => { c with fresh := false })
    let lost : Prop := ∃ c ∈ l.cells, (nodes.get c.ref.slot).state = .cutOff
      ∨ (nodes.get c.ref.slot).state = .absent
    let size := l.config.settleCount
    let window := (l.window ++ [sum]).drop ((l.window ++ [sum]).length - size)
    let still : Prop := ∀ x ∈ window, ∀ y ∈ window, x - y ≤ l.config.settleBand
    let weight := roundDiv window.sum size
    let moved : LaneState := if l.state = .steady then .moving else l.state
    let e := estimate l.config weight
    let run := min 255 (l.unfitRun + 1)
    (l.state = .unbound → k = l)
    ∧ (l.state = .blind → (valid = false ∨ lost) → k = l)
    ∧ (l.state = .blind → valid = true → ¬ lost → k = { l with
        state := .acquiring, window := [sum], cells := stale, band := .unknown, unfitRun := 0 })
    ∧ (l.state.counting = true → valid = false →
        k = { l with
          state := .blind
          window := []
          cells := stale
          band := .unknown
          zeroDeadline := none
          zeroResult := if l.zeroDeadline.isSome = true then some .cancelled else l.zeroResult
          kinds := { l.kinds with zero := l.kinds.zero || l.zeroDeadline.isSome } })
    ∧ (l.state.counting = true → valid = true → window.length < size →
        k = { l with window := window })
    ∧ (l.state.counting = true → valid = true → window.length = size → ¬ still →
        k = { l with window := window, state := moved })
    ∧ (l.state.counting = true → valid = true → window.length = size → still →
      (l.zeroDeadline.isSome = true → k = { l with
        window := window
        settled := some weight
        config := { l.config with tare := min weight.toNat 1000000 }
        zeroDeadline := none
        zeroResult := some (if 0 ≤ weight ∧ weight ≤ 1000000 then .done else .clamped)
        count := 0
        unfitRun := 0
        overfill := false
        state := .steady
        band := .empty
        refBand := .empty
        agree := true
        alertPending := false
        beaconLit := false
        kinds := { l.kinds with zero := true, band := false } })
      ∧ (l.zeroDeadline = none → e.fit = true → k = { l with
        window := window
        settled := some weight
        count := e.count
        unfitRun := 0
        state := .steady
        overfill := decide (l.config.capacity < e.count)
        kinds := { l.kinds with
          count := l.kinds.count || (e.count != l.count && l.config.reportCounts) }
        band := nextBand l.config l.band e.count })
      ∧ (l.zeroDeadline = none → e.fit = false → run < l.config.unfitLimit → k = { l with
        window := window, settled := some weight, unfitRun := run, state := moved })
      ∧ (l.zeroDeadline = none → e.fit = false → l.config.unfitLimit ≤ run → k = { l with
        window := window, settled := some weight, unfitRun := run, state := .suspect
        band := .unknown }))

/-- A pending kind makes its subject due (R85, R88, R89). Notice due follows the kinds, and due since takes
the clock where they cease to be empty. Over one command other than a cold start and the arbiter's choice,
which takes notices and restarts: the entries whose kinds stay keep their places; freed places are filled
from the deferred set in the queue order (R90); then the subjects that became due join in subject order
while there is room, and the rest are deferred. That the leaving comes before the joining is the model's
choice (log 9), and so is that a command is one event, so that a READING's lanes join before its node
(log 27). -/
def Obligations.KindsMakeSubjectsDue : Prop :=
  (∀ (now : Clock) (before after : Lane),
    let waits (k : LaneKinds) : Bool := k.band || k.count || k.zero || k.capture
    Lane.settleDue now before after = { after with
      due := if waits before.kinds = waits after.kinds then after.due else waits after.kinds
      dueSince :=
        if waits before.kinds = false ∧ waits after.kinds = true then now else after.dueSince })
  ∧ (∀ (now : Clock) (before after : Node), Node.settleDue now before after = { after with
      due := if before.statePending = after.statePending then after.due else after.statePending
      dueSince :=
        if before.statePending = false ∧ after.statePending = true then now else after.dueSince })
  ∧ ∀ (c : Instr) (s t : State), s.NoticesConsistent → s.RequestsConsistent → c ≠ .coldStart →
      c ≠ .upstreamChoice → exec c s = .next t →
      let starts (x : Subject) : Prop := s.kindPending x = false ∧ t.kindPending x = true
      (∀ x, t.isDue x = t.kindPending x)
      ∧ (∀ x, starts x → t.dueSince x = t.backbone.clock)
      ∧ (∀ x, ¬ starts x → t.dueSince x = s.dueSince x)
      ∧ ∃ admitted joined : List QueueEntry,
          t.notice.queue =
            s.notice.queue.filter (fun e => t.kindPending e.subject) ++ admitted ++ joined
          ∧ (admitted ++ joined).map QueueEntry.number =
            List.range' s.notice.nextAdmission (admitted.length + joined.length)
          ∧ t.notice.nextAdmission =
            s.notice.nextAdmission + admitted.length + joined.length
          ∧ (∀ e ∈ admitted, e.subject ∈ s.notice.deferred)
          ∧ (t.DueComparable s.notice.deferred →
              admitted.Pairwise (fun e f => t.AdmittedBefore e.subject f.subject)
              ∧ ∀ e ∈ admitted, ∀ x ∈ s.notice.deferred, x ∈ t.notice.deferred →
                t.AdmittedBefore e.subject x)
          ∧ (∀ e ∈ joined, starts e.subject)
          ∧ (joined ≠ [] → ∀ x ∈ t.notice.deferred, x ∉ s.notice.deferred)
          ∧ (t.notice.deferred ≠ [] → t.notice.queue.length = 32)
          ∧ joined.Pairwise (fun e f => e.subject.number < f.subject.number)
          ∧ (∀ e ∈ joined, ∀ x ∈ t.notice.deferred, starts x → e.subject.number < x.number)
          ∧ ∀ x, x ∈ t.notice.deferred ↔
              t.kindPending x = true ∧ ∀ e ∈ t.notice.queue, e.subject ≠ x

/-- Agreement at an event on a lane (R66 to R70, R75): a trigger, which is a band change other than at entry
to UNBOUND, the end of a freeze in a state that is judged, or entry to BLIND from UNBOUND, that finds the
lane not frozen sets agree from the two bands, and a change of agree from yes to no raises an alert; with
no trigger, or frozen, the record stays as the event left it. -/
def Obligations.AgreementIsJudgedOnce : Prop :=
  ∀ (groups : Table Group 16) (now : Clock) (holdBefore holdAfter : Bool) (before after : Lane),
    let k := Lane.judge groups now holdBefore holdAfter before after
    let frozen (hold : Bool) (l : Lane) : Prop :=
      l.replenishDeadline.isSome = true ∨ hold = true ∨ l.state = .acquiring
    let trigger : Prop := (after.band ≠ before.band ∧ after.state ≠ .unbound)
      ∨ (frozen holdBefore before ∧ (after.state = .steady ∨ after.state = .moving
          ∨ after.state = .suspect ∨ after.state = .blind))
      ∨ (before.state = .unbound ∧ after.state = .blind)
    (frozen holdAfter after ∨ ¬ trigger → k = after)
    ∧ (¬ frozen holdAfter after → trigger →
      (after.band = after.refBand → k = { after with agree := true })
      ∧ (after.band ≠ after.refBand → after.agree = false → k = after)
      ∧ (after.band ≠ after.refBand → after.agree = true →
          k = after.raised (groups.get after.config.group) now))

/-- The count estimate and its verdict (R45 to R48). -/
def Obligations.EstimateIsFitWithinTolerance : Prop :=
  ∀ (c : LaneConfig) (w : Int), 1 ≤ c.unitWeight →
    let net := w - c.tare
    let n := (estimate c w).count
    (net ≤ 0 → n = 0 ∧ ((estimate c w).fit = true ↔ -(c.tolFixed : Int) ≤ net))
    ∧ (0 < net → roundDiv net c.unitWeight ≤ 4095 →
        (n : Int) = roundDiv net c.unitWeight
        ∧ ((estimate c w).fit = true ↔
            (net - n * c.unitWeight).natAbs ≤ c.tolFixed + n * c.tolUnit))
    ∧ (0 < net → 4095 < roundDiv net c.unitWeight → n = 4095 ∧ (estimate c w).fit = false)

/-- The band of a count (R60, R61, R62): the raw band from UNKNOWN and on a fall, and on a rise the
highest band whose entry threshold the count has reached. -/
def Obligations.BandFollowsCountWithHysteresis : Prop :=
  ∀ (c : LaneConfig) (current : Band) (n : Nat), c.criticalMark ≤ c.lowMark →
    let rank (x : Band) : Nat := match x with
      | .empty => 0
      | .critical => 1
      | .low => 2
      | .stocked => 3
      | .unknown => 4
    let entry (x : Band) : Nat := match x with
      | .critical => 1 + c.hysteresis
      | .low => c.criticalMark + 1 + c.hysteresis
      | .stocked => c.lowMark + 1 + c.hysteresis
      | .empty | .unknown => 0
    let raw : Band :=
      if n = 0 then .empty else if n ≤ c.criticalMark then .critical
      else if n ≤ c.lowMark then .low else .stocked
    let qualifies (x : Band) : Prop := x ≠ .unknown
      ∧ (∃ m, rawBand c m = x) ∧ rank current < rank x ∧ rank x ≤ rank raw ∧ entry x ≤ n
    rawBand c n = raw
    ∧ (current = .unknown → nextBand c current n = raw)
    ∧ (current ≠ .unknown → rank raw ≤ rank current → nextBand c current n = raw)
    ∧ (current ≠ .unknown → rank current < rank raw →
        (qualifies (nextBand c current n)
          ∧ ∀ x, qualifies x → rank x ≤ rank (nextBand c current n))
        ∨ ((∀ x, ¬ qualifies x) ∧ nextBand c current n = current))

/-! ### What every step keeps -/

/-- Every record, queue and count stays within its table. -/
def Obligations.StepKeepsRanges : Prop :=
  ∀ s t : State, s.InRange → step s = .next t → t.InRange

/-- Lane records stay consistent in themselves (R2, Table 1-3, R77); feed doubtful is yes exactly while a
feeding node is DOUBTFUL (R10); an unfrozen lane that is not UNBOUND agrees exactly while its band is its
ref band (R66, R69, R70); and no cell belongs to two lanes (R19). -/
def Obligations.StepKeepsLanesConsistent : Prop :=
  ∀ s t : State, s.LanesConsistent → step s = .next t → t.LanesConsistent

/-- The notice queue and the deferred set stay as R85, R88 and R89 say. -/
def Obligations.StepKeepsNoticesConsistent : Prop :=
  ∀ s t : State, s.NoticesConsistent → step s = .next t → t.NoticesConsistent

/-- Requests, replies and relays stay as R145, R156, R159 and Table 6-3 say. -/
def Obligations.StepKeepsRequestsConsistent : Prop :=
  ∀ s t : State, s.RequestsConsistent → step s = .next t → t.RequestsConsistent

/-- The beacon outputs go on following the lanes that demand them (R96). -/
def Obligations.StepKeepsBeaconsFollowing : Prop :=
  ∀ s t : State, s.BeaconsFollow → step s = .next t → t.BeaconsFollow

/-- The state after reset has every property that a step keeps. -/
def Obligations.ResetHasWhatStepsKeep : Prop :=
  State.reset.InRange ∧ State.reset.LanesConsistent ∧ State.reset.NoticesConsistent
    ∧ State.reset.RequestsConsistent ∧ State.reset.BeaconsFollow
end

