-- ==== Sys2Proof/Laws/Table.lean ====
section
/-! SUPPORT. Tables: what each operation reads back. -/

namespace Sys2Proof.Table

variable {α β γ : Type} {n : Nat}

theorem get_eq (t : Table α n) (i : Fin n) : t.toList[i.val]? = some (t.get i) := by
  simp [get, t.size_eq]

/-- Tables that read the same everywhere are the same. -/
theorem ext_get {t u : Table α n} (h : ∀ i, t.get i = u.get i) : t = u := by
  obtain ⟨l, hl⟩ := t
  obtain ⟨m, hm⟩ := u
  have : l = m := by
    apply List.ext_getElem (by rw [hl, hm])
    intro k h1 _
    exact h ⟨k, hl ▸ h1⟩
  subst this
  rfl

@[simp] theorem get_const (x : α) (i : Fin n) : (const n x).get i = x := by
  simp [get, const]

@[simp] theorem get_map (f : α → β) (t : Table α n) (i : Fin n) : (t.map f).get i = f (t.get i) := by
  simp [get, map]

@[simp] theorem get_zipWith (f : α → β → γ) (t : Table α n) (u : Table β n) (i : Fin n) :
    (zipWith f t u).get i = f (t.get i) (u.get i) := by
  simp [get, zipWith]

@[simp] theorem get_build (f : Fin n → α) (i : Fin n) : (build f).get i = f i := by
  simp [get, build]

theorem get_set (t : Table α n) (i j : Fin n) (x : α) :
    (t.set i x).get j = if i = j then x else t.get j := by
  simp [get, set, List.getElem_set, Fin.ext_iff]

@[simp] theorem get_set_self (t : Table α n) (i : Fin n) (x : α) : (t.set i x).get i = x := by
  simp [get_set]

theorem get_set_ne (t : Table α n) {i j : Fin n} (h : i ≠ j) (x : α) : (t.set i x).get j = t.get j := by
  simp [get_set, h]

theorem get_modify (t : Table α n) (i j : Fin n) (f : α → α) :
    (t.modify i f).get j = if i = j then f (t.get j) else t.get j := by
  unfold modify
  rw [get_set]
  split
  · subst_vars; rfl
  · rfl

@[simp] theorem get_modify_self (t : Table α n) (i : Fin n) (f : α → α) :
    (t.modify i f).get i = f (t.get i) := by
  simp [get_modify]

theorem get_modify_ne (t : Table α n) {i j : Fin n} (h : i ≠ j) (f : α → α) :
    (t.modify i f).get j = t.get j := by
  simp [get_modify, h]

@[simp] theorem set_get (t : Table α n) (i : Fin n) : t.set i (t.get i) = t :=
  ext_get fun j => by rw [get_set]; split <;> simp_all

@[simp] theorem map_id (t : Table α n) : t.map (fun x => x) = t := ext_get fun _ => by simp

@[simp] theorem build_get (t : Table α n) : build t.get = t := ext_get fun _ => by simp

theorem mem_toList (t : Table α n) (x : α) : x ∈ t.toList ↔ ∃ i, t.get i = x := by
  constructor
  · intro h
    obtain ⟨k, hk, rfl⟩ := List.getElem_of_mem h
    exact ⟨⟨k, t.size_eq ▸ hk⟩, rfl⟩
  · rintro ⟨i, rfl⟩
    exact List.getElem_mem _

end Sys2Proof.Table
end

