-- ==== Sys2Proof/Laws/State.lean ====
section
/-! SUPPORT. What each named update of the state leaves in each field. -/

namespace Sys2Proof.Machine

namespace State

variable (s : State) (g : Segment) (e : SweepEngine) (v : Option Visit) (rs : List Relay)
  (f : Lane → Lane) (n : Fin 128) (slot : Fin 64) (nd : Node)

/-! ### setSweep -/

@[simp] theorem setSweep_sweep : (s.setSweep g e).sweep g = e := by cases g <;> rfl
theorem setSweep_sweep_ne {g h : Segment} (hne : g ≠ h) : (s.setSweep g e).sweep h = s.sweep h := by
  cases g <;> cases h <;> first | rfl | exact absurd rfl hne
@[simp] theorem setSweep_self : s.setSweep g (s.sweep g) = s := by cases g <;> rfl
@[simp] theorem setSweep_pending : (s.setSweep g e).pending = s.pending := by cases g <;> rfl
@[simp] theorem setSweep_backbone : (s.setSweep g e).backbone = s.backbone := by cases g <;> rfl
@[simp] theorem setSweep_mgmt : (s.setSweep g e).mgmt = s.mgmt := by cases g <;> rfl
@[simp] theorem setSweep_notice : (s.setSweep g e).notice = s.notice := by cases g <;> rfl
@[simp] theorem setSweep_staged : (s.setSweep g e).staged = s.staged := by cases g <;> rfl
@[simp] theorem setSweep_active : (s.setSweep g e).active = s.active := by cases g <;> rfl
@[simp] theorem setSweep_lanes : (s.setSweep g e).lanes = s.lanes := by cases g <;> rfl
@[simp] theorem setSweep_nodes : (s.setSweep g e).nodes = s.nodes := by cases g <;> rfl
@[simp] theorem setSweep_sequences : (s.setSweep g e).sequences = s.sequences := by cases g <;> rfl
@[simp] theorem setSweep_nextAcceptance : (s.setSweep g e).nextAcceptance = s.nextAcceptance := by
  cases g <;> rfl

/-! ### setVisit and setRelays -/

@[simp] theorem setVisit_sweep : (s.setVisit g v).sweep g = { s.sweep g with visit := v } := by
  simp [setVisit]
@[simp] theorem setVisit_pending : (s.setVisit g v).pending = s.pending := by simp [setVisit]
@[simp] theorem setVisit_backbone : (s.setVisit g v).backbone = s.backbone := by simp [setVisit]
@[simp] theorem setVisit_mgmt : (s.setVisit g v).mgmt = s.mgmt := by simp [setVisit]
@[simp] theorem setVisit_notice : (s.setVisit g v).notice = s.notice := by simp [setVisit]
@[simp] theorem setVisit_staged : (s.setVisit g v).staged = s.staged := by simp [setVisit]
@[simp] theorem setVisit_active : (s.setVisit g v).active = s.active := by simp [setVisit]
@[simp] theorem setVisit_lanes : (s.setVisit g v).lanes = s.lanes := by simp [setVisit]
@[simp] theorem setVisit_nodes : (s.setVisit g v).nodes = s.nodes := by simp [setVisit]
@[simp] theorem setVisit_sequences : (s.setVisit g v).sequences = s.sequences := by simp [setVisit]
@[simp] theorem setRelays_sweep : (s.setRelays g rs).sweep g = { s.sweep g with relays := rs } := by
  simp [setRelays]
@[simp] theorem setRelays_pending : (s.setRelays g rs).pending = s.pending := by simp [setRelays]
@[simp] theorem setRelays_backbone : (s.setRelays g rs).backbone = s.backbone := by simp [setRelays]
@[simp] theorem setRelays_mgmt : (s.setRelays g rs).mgmt = s.mgmt := by simp [setRelays]
@[simp] theorem setRelays_notice : (s.setRelays g rs).notice = s.notice := by simp [setRelays]
@[simp] theorem setRelays_staged : (s.setRelays g rs).staged = s.staged := by simp [setRelays]
@[simp] theorem setRelays_active : (s.setRelays g rs).active = s.active := by simp [setRelays]
@[simp] theorem setRelays_lanes : (s.setRelays g rs).lanes = s.lanes := by simp [setRelays]
@[simp] theorem setRelays_nodes : (s.setRelays g rs).nodes = s.nodes := by simp [setRelays]
@[simp] theorem setRelays_sequences : (s.setRelays g rs).sequences = s.sequences := by simp [setRelays]

/-! ### mapLanes, modifyLane, setNode -/

@[simp] theorem mapLanes_pending : (s.mapLanes f).pending = s.pending := rfl
@[simp] theorem mapLanes_backbone : (s.mapLanes f).backbone = s.backbone := rfl
@[simp] theorem mapLanes_mgmt : (s.mapLanes f).mgmt = s.mgmt := rfl
@[simp] theorem mapLanes_notice : (s.mapLanes f).notice = s.notice := rfl
@[simp] theorem mapLanes_staged : (s.mapLanes f).staged = s.staged := rfl
@[simp] theorem mapLanes_active : (s.mapLanes f).active = s.active := rfl
@[simp] theorem mapLanes_lanes : (s.mapLanes f).lanes = s.lanes.map f := rfl
@[simp] theorem mapLanes_nodes : (s.mapLanes f).nodes = s.nodes := rfl
@[simp] theorem mapLanes_sweepA : (s.mapLanes f).sweepA = s.sweepA := rfl
@[simp] theorem mapLanes_sweepB : (s.mapLanes f).sweepB = s.sweepB := rfl
@[simp] theorem mapLanes_sequences : (s.mapLanes f).sequences = s.sequences := rfl
@[simp] theorem mapLanes_nextAcceptance : (s.mapLanes f).nextAcceptance = s.nextAcceptance := rfl

@[simp] theorem modifyLane_pending : (s.modifyLane n f).pending = s.pending := rfl
@[simp] theorem modifyLane_backbone : (s.modifyLane n f).backbone = s.backbone := rfl
@[simp] theorem modifyLane_mgmt : (s.modifyLane n f).mgmt = s.mgmt := rfl
@[simp] theorem modifyLane_notice : (s.modifyLane n f).notice = s.notice := rfl
@[simp] theorem modifyLane_staged : (s.modifyLane n f).staged = s.staged := rfl
@[simp] theorem modifyLane_active : (s.modifyLane n f).active = s.active := rfl
@[simp] theorem modifyLane_lanes : (s.modifyLane n f).lanes = s.lanes.modify n f := rfl
@[simp] theorem modifyLane_nodes : (s.modifyLane n f).nodes = s.nodes := rfl
@[simp] theorem modifyLane_sweepA : (s.modifyLane n f).sweepA = s.sweepA := rfl
@[simp] theorem modifyLane_sweepB : (s.modifyLane n f).sweepB = s.sweepB := rfl
@[simp] theorem modifyLane_sequences : (s.modifyLane n f).sequences = s.sequences := rfl
@[simp] theorem modifyLane_nextAcceptance :
    (s.modifyLane n f).nextAcceptance = s.nextAcceptance := rfl

@[simp] theorem setNode_pending : (s.setNode slot nd).pending = s.pending := rfl
@[simp] theorem setNode_backbone : (s.setNode slot nd).backbone = s.backbone := rfl
@[simp] theorem setNode_mgmt : (s.setNode slot nd).mgmt = s.mgmt := rfl
@[simp] theorem setNode_notice : (s.setNode slot nd).notice = s.notice := rfl
@[simp] theorem setNode_staged : (s.setNode slot nd).staged = s.staged := rfl
@[simp] theorem setNode_active : (s.setNode slot nd).active = s.active := rfl
@[simp] theorem setNode_lanes : (s.setNode slot nd).lanes = s.lanes := rfl
@[simp] theorem setNode_nodes : (s.setNode slot nd).nodes = s.nodes.set slot nd := rfl
@[simp] theorem setNode_sweepA : (s.setNode slot nd).sweepA = s.sweepA := rfl
@[simp] theorem setNode_sweepB : (s.setNode slot nd).sweepB = s.sweepB := rfl
@[simp] theorem setNode_sequences : (s.setNode slot nd).sequences = s.sequences := rfl
@[simp] theorem setNode_nextAcceptance : (s.setNode slot nd).nextAcceptance = s.nextAcceptance := rfl

/-! ### elapse -/

variable (d : Nat)

@[simp] theorem elapse_pending : (s.elapse d).pending = s.pending := rfl
@[simp] theorem elapse_now : (s.elapse d).now = s.now + BitVec.ofNat 32 d := rfl
@[simp] theorem elapse_mgmt : (s.elapse d).mgmt = s.mgmt := rfl
@[simp] theorem elapse_staged : (s.elapse d).staged = s.staged := rfl
@[simp] theorem elapse_active : (s.elapse d).active = s.active := rfl
@[simp] theorem elapse_lanes : (s.elapse d).lanes = s.lanes := rfl
@[simp] theorem elapse_nodes : (s.elapse d).nodes = s.nodes := rfl
@[simp] theorem elapse_sequences : (s.elapse d).sequences = s.sequences := rfl
@[simp] theorem elapse_nextAcceptance : (s.elapse d).nextAcceptance = s.nextAcceptance := rfl
@[simp] theorem elapse_groups : (s.elapse d).notice.groups = s.notice.groups := rfl
@[simp] theorem elapse_output : (s.elapse d).notice.output = s.notice.output := rfl
@[simp] theorem elapse_queue : (s.elapse d).notice.queue = s.notice.queue := rfl
@[simp] theorem elapse_deferred : (s.elapse d).notice.deferred = s.notice.deferred := rfl
@[simp] theorem elapse_holdDeadline : (s.elapse d).notice.holdDeadline = s.notice.holdDeadline := rfl
@[simp] theorem elapse_sweep : (s.elapse d).sweep g = (s.sweep g).elapse d := by cases g <;> rfl

end State

end Sys2Proof.Machine
end

