-- ==== Sys2Proof/Laws/Notices.lean ====
section
/-! SUPPORT. The closing of an event: which part of the state the notice queue and the beacons touch,
and what it writes there. -/

namespace Sys2Proof.Machine

/-- Only the queue, the deferred set and the admission count differ. -/
def State.SameButQueue (s t : State) : Prop :=
  t = { s with notice := { s.notice with
    queue := t.notice.queue
    deferred := t.notice.deferred
    nextAdmission := t.notice.nextAdmission } }

namespace State

theorem SameButQueue.refl (s : State) : s.SameButQueue s := rfl

theorem SameButQueue.trans {s t u : State} (h : s.SameButQueue t) (k : t.SameButQueue u) :
    s.SameButQueue u := by
  unfold SameButQueue at *
  rw [k, h]

theorem enqueue_frame (s : State) (x : Subject) : s.SameButQueue (s.enqueue x) := rfl

theorem admitUpTo_frame (fuel : Nat) (s : State) : s.SameButQueue (s.admitUpTo fuel) := by
  induction fuel generalizing s with
  | zero => exact .refl s
  | succ k ih =>
    simp only [admitUpTo]
    split
    · split
      · exact (enqueue_frame s _).trans (ih _)
      · exact .refl s
    · exact .refl s

theorem admitDeferred_frame (s : State) : s.SameButQueue s.admitDeferred := admitUpTo_frame _ s

theorem joinQueue_frame (s : State) (x : Subject) : s.SameButQueue (s.joinQueue x) := by
  unfold joinQueue
  split
  · exact enqueue_frame s x
  · rfl

theorem leaveQueue_frame (s : State) (xs : List Subject) : s.SameButQueue (s.leaveQueue xs) := by
  simp only [leaveQueue]
  split
  · refine SameButQueue.trans ?_ (admitDeferred_frame _)
    rfl
  · rfl

theorem joinAll_frame (xs : List Subject) (s : State) : s.SameButQueue (xs.foldl joinQueue s) := by
  induction xs generalizing s with
  | nil => exact .refl s
  | cons x xs ih => exact (joinQueue_frame s x).trans (ih _)

/-- The state after the closing of an event, in every field. -/
theorem close_eq (before after : State) :
    close before after = { after with
      lanes := Table.zipWith (Lane.settleDue after.now) before.lanes after.lanes
      nodes := Table.zipWith (Node.settleDue after.now) before.nodes after.nodes
      notice := { after.notice with
        queue := (close before after).notice.queue
        deferred := (close before after).notice.deferred
        nextAdmission := (close before after).notice.nextAdmission
        beacons := (close before after).notice.beacons } } := by
  have h := (leaveQueue_frame { after with
    lanes := Table.zipWith (Lane.settleDue after.now) before.lanes after.lanes
    nodes := Table.zipWith (Node.settleDue after.now) before.nodes after.nodes }
      (Subject.all.filter (fun x => before.kindPending x && !after.kindPending x))).trans
    (joinAll_frame (Subject.all.filter (fun x => !before.kindPending x && after.kindPending x)) _)
  unfold SameButQueue at h
  simp only [close, settleNotices, refreshBeacons]
  rw [h]

variable (before after : State)

@[simp] theorem close_pending : (close before after).pending = after.pending := by rw [close_eq]
@[simp] theorem close_backbone : (close before after).backbone = after.backbone := by rw [close_eq]
@[simp] theorem close_mgmt : (close before after).mgmt = after.mgmt := by rw [close_eq]
@[simp] theorem close_staged : (close before after).staged = after.staged := by rw [close_eq]
@[simp] theorem close_active : (close before after).active = after.active := by rw [close_eq]
@[simp] theorem close_sweepA : (close before after).sweepA = after.sweepA := by rw [close_eq]
@[simp] theorem close_sweepB : (close before after).sweepB = after.sweepB := by rw [close_eq]
@[simp] theorem close_sequences : (close before after).sequences = after.sequences := by rw [close_eq]
@[simp] theorem close_nextAcceptance : (close before after).nextAcceptance = after.nextAcceptance := by
  rw [close_eq]
@[simp] theorem close_sweep (g : Segment) : (close before after).sweep g = after.sweep g := by
  cases g <;> simp [sweep]
@[simp] theorem close_lane (n : Fin 128) : (close before after).lanes.get n =
    Lane.settleDue after.now (before.lanes.get n) (after.lanes.get n) := by
  rw [close_eq]; simp
@[simp] theorem close_node (i : Fin 64) : (close before after).nodes.get i =
    Node.settleDue after.now (before.nodes.get i) (after.nodes.get i) := by
  rw [close_eq]; simp

/-- The closing leaves everything of the Notice Unit but the waiting subjects and the beacons. -/
theorem close_notice : (close before after).notice = { after.notice with
    queue := (close before after).notice.queue
    deferred := (close before after).notice.deferred
    nextAdmission := (close before after).notice.nextAdmission
    beacons := (close before after).notice.beacons } := by
  conv_lhs => rw [close_eq]

end State

/-- A lane whose kinds are as they were keeps its record. -/
theorem Lane.settleDue_of_kinds {now : Clock} {l k : Lane} (h : k.kinds.any = l.kinds.any) :
    Lane.settleDue now l k = k := by
  unfold Lane.settleDue
  rw [h]
  cases l.kinds.any <;> simp

@[simp] theorem Lane.settleDue_self (now : Clock) (l : Lane) : Lane.settleDue now l l = l :=
  Lane.settleDue_of_kinds rfl

theorem Node.settleDue_of_pending {now : Clock} {n k : Node} (h : k.statePending = n.statePending) :
    Node.settleDue now n k = k := by
  unfold Node.settleDue
  rw [h]
  cases n.statePending <;> simp

@[simp] theorem Node.settleDue_self (now : Clock) (n : Node) : Node.settleDue now n n = n :=
  Node.settleDue_of_pending rfl

/-- The closing of an event that touches only lanes, groups and beacons leaves the rest. -/
theorem State.close_sameButLanes {before after : State} (h : before.nodes = after.nodes) :
    after.SameButLanes (State.close before after) := by
  have hn : Table.zipWith (Node.settleDue after.now) before.nodes after.nodes = after.nodes :=
    Table.ext_get fun i => by rw [h]; simp
  unfold State.SameButLanes
  conv_lhs => rw [State.close_eq, hn]
  conv_rhs => rw [State.close_eq, hn]

/-- An event that leaves every subject's kinds empty or non-empty as they were touches no queue. -/
theorem State.close_quiet {before after : State}
    (h : ∀ x, after.kindPending x = before.kindPending x) :
    State.close before after = after.refreshBeacons := by
  have hl : Table.zipWith (Lane.settleDue after.now) before.lanes after.lanes = after.lanes :=
    Table.ext_get fun n => by
      rw [Table.get_zipWith]; exact Lane.settleDue_of_kinds (h (.lane n))
  have hn : Table.zipWith (Node.settleDue after.now) before.nodes after.nodes = after.nodes :=
    Table.ext_get fun i => by
      rw [Table.get_zipWith]; exact Node.settleDue_of_pending (h (.node i))
  simp [State.close, State.settleNotices, hl, hn, h, State.leaveQueue]

end Sys2Proof.Machine
end

