-- ==== Sys2Proof/Laws/Beacons.lean ====
section
/-! SUPPORT. Beacons: the outputs that a refresh drives. -/

namespace Sys2Proof.Machine

namespace State

variable (s : State) (b : Fin 4)

/-- A priority demands the beacon exactly where a lit lane's group has it. -/
theorem mem_demands (p : Nat) : p ∈ s.demands b ↔ ∃ n : Fin 128, (s.lanes.get n).beaconLit = true
    ∧ (s.notice.groups.get (s.lanes.get n).config.group).beacon = b
    ∧ (s.notice.groups.get (s.lanes.get n).config.group).priority = p := by
  simp only [demands, List.mem_map, List.mem_filter, Table.mem_toList, Bool.and_eq_true, beq_iff_eq]
  constructor
  · rintro ⟨_, ⟨⟨n, rfl⟩, h1, h2⟩, h3⟩
    exact ⟨n, h1, h2, h3⟩
  · rintro ⟨n, h1, h2, h3⟩
    exact ⟨_, ⟨⟨n, rfl⟩, h1, h2⟩, h3⟩

theorem demanded_iff (low : Nat) : s.demanded b low ↔ ∃ p ∈ s.demands b, low ≤ p := by
  simp only [demanded, mem_demands]
  constructor
  · rintro ⟨n, h1, h2, h3⟩
    exact ⟨_, ⟨n, h1, h2, rfl⟩, h3⟩
  · rintro ⟨_, ⟨n, h1, h2, rfl⟩, h3⟩
    exact ⟨n, h1, h2, h3⟩

end State

theorem Beacon.decide_ne_off (o : NoticeOutput) (ps : List Nat) (b : Beacon) :
    b.decide o ps ≠ .off ↔ o = .on ∧ ∃ p ∈ ps, 0 ≤ p := by
  cases o <;> cases ps <;> cases b <;> simp [Beacon.decide] <;> split <;> simp

theorem Beacon.decide_isFlashing (o : NoticeOutput) (ps : List Nat) (b : Beacon) :
    (b.decide o ps).isFlashing = true ↔ o = .on ∧ ∃ p ∈ ps, 4 ≤ p := by
  unfold Beacon.decide
  cases o
  · cases ps with
    | nil => simp [Beacon.isFlashing]
    | cons p ps =>
      by_cases h : (p :: ps).any (4 ≤ ·) = true
      · have : ∃ q ∈ p :: ps, 4 ≤ q := by simpa using h
        cases b <;> simp_all [Beacon.isFlashing]
      · have : ¬ ∃ q ∈ p :: ps, 4 ≤ q := by simpa using h
        have hd : ¬ (4 ≤ p ∨ ∃ x ∈ ps, 4 ≤ x) := by simpa using this
        simp [Beacon.isFlashing, hd]
  · simp [Beacon.isFlashing]

namespace State

variable (s : State)

@[simp] theorem refreshBeacons_beacon (b : Fin 4) : s.refreshBeacons.notice.beacons.get b =
    (s.notice.beacons.get b).decide s.notice.output (s.demands b) := by
  simp [refreshBeacons]

@[simp] theorem refreshBeacons_demands (b : Fin 4) : s.refreshBeacons.demands b = s.demands b := rfl

/-- A refresh drives every output as R96 says. -/
theorem refreshBeacons_follow : s.refreshBeacons.BeaconsFollow := by
  intro b
  rw [demanded_iff, demanded_iff, refreshBeacons_beacon, refreshBeacons_demands,
    Beacon.decide_ne_off, Beacon.decide_isFlashing]
  exact ⟨Iff.rfl, Iff.rfl⟩

/-- A refresh keeps the rhythm of a flashing output. -/
theorem refreshBeacons_rhythm : rhythmKept s.notice.beacons s.refreshBeacons.notice.beacons := by
  intro b h
  rw [refreshBeacons_beacon] at *
  unfold Beacon.decide at *
  split at h
  · simp [Beacon.isFlashing] at h
  · split at h
    · rename_i h1 h2
      simp only [if_neg h1, if_pos h2]
      cases hb : s.notice.beacons.get b <;> simp [Beacon.isFlashing]
    · simp [Beacon.isFlashing] at h

/-- Outputs that follow are left alone. -/
theorem refreshBeacons_of_follow (h : s.BeaconsFollow) : s.refreshBeacons = s := by
  have hb : ∀ b, (s.notice.beacons.get b).decide s.notice.output (s.demands b) =
      s.notice.beacons.get b := by
    intro b
    obtain ⟨h1, h2⟩ := h b
    rw [demanded_iff] at h1 h2
    unfold Beacon.decide
    cases ho : s.notice.output
    · cases hd : s.demands b with
      | nil => cases hc : s.notice.beacons.get b <;> simp_all
      | cons p ps =>
        cases hc : s.notice.beacons.get b <;> simp_all [Beacon.isFlashing]
    · cases hc : s.notice.beacons.get b <;> simp_all
  have : Table.build (fun b => (s.notice.beacons.get b).decide s.notice.output (s.demands b)) =
      s.notice.beacons := Table.ext_get fun b => by simp [hb]
  unfold refreshBeacons
  rw [this]

/-- Every closed event leaves the outputs following the lanes. -/
theorem close_follow (before after : State) : (close before after).BeaconsFollow :=
  refreshBeacons_follow _

end State

end Sys2Proof.Machine
end

