-- ==== Sys2Proof/Laws/Bytes.lean ====
section
/-! SUPPORT. Fields of a payload: what is read back of what was written. -/

namespace Sys2Proof.Machine

@[simp] theorem byteAt_zero (b : Byte) (bs : List Byte) : byteAt (b :: bs) 0 = b.toNat := rfl
@[simp] theorem byteAt_succ (b : Byte) (bs : List Byte) (i : Nat) :
    byteAt (b :: bs) (i + 1) = byteAt bs i := rfl

@[simp] theorem byteOf_toNat (b : Byte) : byteOf b.toNat = b := by simp [byteOf]

theorem toNat_byteOf {n : Nat} (h : n < 256) : (byteOf n).toNat = n := by simp [byteOf]; omega

theorem natOf_be2 {n : Nat} (h : n < 65536) : natOf (be2 n) = n := by simp [natOf, be2, byteOf]; omega

theorem natOf_be3 {n : Nat} (h : n < 16777216) : natOf (be3 n) = n := by
  simp [natOf, be3, byteOf]; omega

theorem natOf_be4 {n : Nat} (h : n < 4294967296) : natOf (be4 n) = n := by
  simp [natOf, be4, byteOf]; omega

@[simp] theorem be2_length (n : Nat) : (be2 n).length = 2 := rfl
@[simp] theorem be3_length (n : Nat) : (be3 n).length = 3 := rfl
@[simp] theorem be4_length (n : Nat) : (be4 n).length = 4 := rfl

/-- Two bytes spell the number they were read from. -/
theorem be2_natOf (a b : Byte) : be2 (natOf [a, b]) = [a, b] := by
  have ha := a.isLt
  have hb := b.isLt
  simp only [be2, natOf, byteOf, List.foldl, List.cons.injEq, and_true, ← BitVec.toNat_inj,
    BitVec.toNat_ofNat]
  omega

@[simp] theorem index_val {n : Nat} (i : Fin n) : index n i.val = some i := by simp [index]

theorem index_of_lt {n k : Nat} (h : k < n) : index n k = some ⟨k, h⟩ := by simp [index, h]

theorem index_of_le {n k : Nat} (h : n ≤ k) : index n k = none := by
  simp [index, show ¬ k < n by omega]

/-- A yes/no byte is yes when it is not 0. -/
theorem toNat_bne_zero (b : Byte) : (b.toNat != 0) = (b != 0) := by
  rw [Bool.eq_iff_iff]; simp [BitVec.toNat_eq]

theorem yesAt_yesByte (b : Bool) : ((yesByte b).toNat != 0) = b := by cases b <;> rfl

end Sys2Proof.Machine
end

