-- ==== Sys2Proof/Laws/Lanes.lean ====
section
/-! SUPPORT. One lane record: what clearing, entering a state and judging agreement leave, and how the
end of a freeze reads. -/

namespace Sys2Proof.Machine

variable (l : Lane) (nodes : Table Node 64) (groups : Table Group 16) (now : Clock)

/-! ### clearWindow -/

@[simp] theorem Lane.clearWindow_window : l.clearWindow.window = [] := rfl
@[simp] theorem Lane.clearWindow_state : l.clearWindow.state = l.state := rfl
@[simp] theorem Lane.clearWindow_config : l.clearWindow.config = l.config := rfl
@[simp] theorem Lane.clearWindow_refs :
    l.clearWindow.cells.map LaneCell.ref = l.cells.map LaneCell.ref := by
  simp [Lane.clearWindow]
@[simp] theorem Lane.clearWindow_isEmpty : l.clearWindow.cells.isEmpty = l.cells.isEmpty := by
  cases h : l.cells <;> simp [Lane.clearWindow, h]

/-! ### Zeroing -/

theorem Lane.cancelZeroing_of_none (h : l.zeroDeadline = none) : l.cancelZeroing = l := by
  simp [Lane.cancelZeroing, Lane.zeroing, h]

theorem Lane.cancelZeroing_of_some (h : l.zeroDeadline.isSome = true) :
    l.cancelZeroing = { l with
      zeroDeadline := none, zeroResult := some .cancelled
      kinds := { l.kinds with zero := true } } := by
  simp [Lane.cancelZeroing, Lane.zeroing, h, Lane.endZeroing]

@[simp] theorem Lane.cancelZeroing_zeroDeadline : l.cancelZeroing.zeroDeadline = none := by
  cases h : l.zeroDeadline <;> simp [Lane.cancelZeroing, Lane.zeroing, h, Lane.endZeroing]

/-! ### What the statements call these operations (chapter 1) -/

theorem Lane.clearWindow_eq : l.clearWindow = l.emptied := rfl

theorem Lane.cancelZeroing_eq : l.cancelZeroing = l.unzeroed := rfl

theorem Lane.enterBlind_eq : l.enterBlind = l.wentBlind := rfl

theorem Lane.enterAcquiring_eq : l.enterAcquiring = l.wentAcquiring := rfl

theorem Lane.enterUnbound_eq : l.enterUnbound = l.wentUnbound := rfl

theorem Lane.setDoubt_eq : l.setDoubt nodes = l.doubted nodes := by
  simp [Lane.setDoubt, Lane.doubted, List.any_eq, beq_iff_eq]

theorem Lane.disturb_eq (h : l.state ≠ .unbound) : l.disturb =
    { l.emptied with state := if l.state = .steady then .moving else l.state } := by
  cases hs : l.state <;> simp_all [Lane.disturb, LaneState.disturbed, Lane.clearWindow_eq]

/-! ### Raises and the end of a freeze -/

theorem Lane.raise_eq : l.raise groups now = { l with
    alertPending := true
    alertAnnounced := false
    raiseTime := some now
    beaconLit := l.beaconLit || (groups.get l.config.group).route.toBeacon
    kinds := { l.kinds with band := l.kinds.band || (groups.get l.config.group).announcing } } := rfl

theorem Route.toBeacon_eq (r : Route) : r.toBeacon = (r == .beacon || r == .both) := by
  cases r <;> rfl

theorem Route.toNotice_eq (r : Route) : r.toNotice = (r == .notice || r == .both) := by
  cases r <;> rfl

/-- A raise, written out (R75). -/
theorem Lane.raise_raised (h : l.agree = false) :
    l.raise groups now = l.raised (groups.get l.config.group) now := by
  simp [Lane.raise, Lane.raised, Group.announcing, Route.toBeacon_eq, Route.toNotice_eq, h,
    Bool.or_assoc]

/-- An agreement evaluation with raising, written out (R66, R75). -/
theorem Lane.evaluateRaising_eq :
    l.evaluateRaising groups now = l.freezeEnded (groups.get l.config.group) now := by
  rcases Bool.eq_false_or_eq_true l.agree with h | h <;> by_cases hb : l.band = l.refBand <;>
    simp [Lane.evaluateRaising, Lane.freezeEnded, Lane.raise, Lane.raised, Group.announcing,
      Route.toBeacon_eq, Route.toNotice_eq, h, hb, Bool.or_assoc]

/-- A lane at the end of aisle hold (R73). -/
theorem Lane.judge_holdEnded :
    Lane.judge groups now true false l l = l.holdEnded (groups.get l.config.group) now := by
  unfold Lane.judge Lane.holdEnded
  rw [← Lane.evaluateRaising_eq]
  cases hs : l.state <;> cases hr : l.replenishDeadline <;>
    simp [Lane.frozen, Lane.triggered, LaneState.judged, hs, hr]

/-- The judgement leaves everything but what a raise and an agreement evaluation write. -/
theorem Lane.judge_frame (h1 h2 : Bool) (b : Lane) : Lane.judge groups now h1 h2 b l = { l with
    agree := (Lane.judge groups now h1 h2 b l).agree
    alertPending := (Lane.judge groups now h1 h2 b l).alertPending
    alertAnnounced := (Lane.judge groups now h1 h2 b l).alertAnnounced
    raiseTime := (Lane.judge groups now h1 h2 b l).raiseTime
    beaconLit := (Lane.judge groups now h1 h2 b l).beaconLit
    kinds := { l.kinds with band := (Lane.judge groups now h1 h2 b l).kinds.band } } := by
  simp only [Lane.judge]
  split
  · rfl
  · split
    · simp only [Lane.evaluateRaising]
      split <;> rfl
    · rfl

end Sys2Proof.Machine
end

