-- ==== Sys2Proof/Laws/Health.lean ====
section
/-! SUPPORT. Node health: what taking an outcome leaves in each field of the state. -/

namespace Sys2Proof.Machine

@[simp] theorem Node.probe_statePending (n : Node) (o : VisitOutcome) :
    (n.probe o).statePending = n.statePending := by
  cases o with
  | good =>
    simp only [Node.probe]
    by_cases h : n.probeRun < Config.probeRunLength
    · simp only [h, if_true]
      cases decide (n.probeRun + 1 = Config.probeRunLength) && (n.recovery == .auto || n.releaseGranted)
        <;> rfl
    · simp only [h, if_false]
  | _ => rfl

@[simp] theorem Node.bad_statePending (n : Node) (a : Bool) :
    (n.bad a).statePending = n.statePending := by
  by_cases h : Config.runCeiling < n.score + 8 <;> simp [Node.bad, h, Node.cutOff]

@[simp] theorem Node.seeError_statePending (n : Node) (o : VisitOutcome) :
    (n.seeError o).statePending = n.statePending := by
  cases o <;> rfl

/-- Judging an outcome leaves the notice fields of the record. -/
@[simp] theorem Node.judge_statePending (n : Node) (k : Nat) (a : Bool) (o : VisitOutcome) :
    (n.judge k a o).statePending = n.statePending := by
  by_cases h : (n.seeError o).state = .cutOff
  · simp [Node.judge, h]
  · cases o <;> simp only [Node.judge, h, if_false, Node.bad_statePending, Node.seeError_statePending]
      <;> rfl

/-- The relays that a loss leaves open. -/
theorem loseRelays_eq (address : BitVec 6) (rs : List Relay) :
    loseRelays address rs = relaysLost address rs := by
  unfold loseRelays relaysLost
  congr 1
  funext r
  cases ho : r.outcome <;> simp [Relay.isOpen, ho]

namespace State

variable (s : State) (slot : Fin 64) (k : Node)

/-- The record of the slot becomes `k`, and what a change of state reports: STATE pending, the lanes fed
judged again and BLIND where the node is lost, its open relays ended (R131). -/
theorem reportNode_eq : s.reportNode slot k =
    ({ s with
      nodes := s.nodes.set slot { k with
        statePending := k.statePending || k.state != (s.nodes.get slot).state }
      lanes := s.lanes.map (fun l =>
        if k.state ≠ (s.nodes.get slot).state ∧ l.fedBy slot = true then
          s.judge l ((if k.state.lost then l.nodeLost else l).setDoubt
            (s.nodes.set slot { k with statePending := true }))
        else l) } : State).setRelays (segmentOf slot)
          (if k.state ≠ (s.nodes.get slot).state ∧ k.state.lost = true then
            loseRelays (s.active.sweep.get slot).address (s.sweep (segmentOf slot)).relays
          else (s.sweep (segmentOf slot)).relays) := by
  unfold reportNode
  by_cases h : k.state = (s.nodes.get slot).state
  · have hk : ({ k with
        statePending := k.statePending || k.state != (s.nodes.get slot).state } : Node) = k := by
      have hb : (k.state != (s.nodes.get slot).state) = false := by simp [h]
      rw [hb, Bool.or_false]
    rw [if_pos h, hk]
    simp only [h, ne_eq, not_true_eq_false, false_and, if_false, Table.map_id, setNode, setRelays]
    cases segmentOf slot <;> rfl
  · have hb : (k.state != (s.nodes.get slot).state) = true := by simpa using h
    simp only [h, if_false, ne_eq, not_false_eq_true, true_and, hb, Bool.or_true]
    split
    · rfl
    · simp only [setRelays]
      cases segmentOf slot <;> rfl

@[simp] theorem reportNode_pending : (s.reportNode slot k).pending = s.pending := by
  rw [reportNode_eq]; simp
@[simp] theorem reportNode_backbone : (s.reportNode slot k).backbone = s.backbone := by
  rw [reportNode_eq]; simp
@[simp] theorem reportNode_mgmt : (s.reportNode slot k).mgmt = s.mgmt := by rw [reportNode_eq]; simp
@[simp] theorem reportNode_notice : (s.reportNode slot k).notice = s.notice := by
  rw [reportNode_eq]; simp
@[simp] theorem reportNode_staged : (s.reportNode slot k).staged = s.staged := by
  rw [reportNode_eq]; simp
@[simp] theorem reportNode_active : (s.reportNode slot k).active = s.active := by
  rw [reportNode_eq]; simp
@[simp] theorem reportNode_sequences : (s.reportNode slot k).sequences = s.sequences := by
  rw [reportNode_eq]; simp
@[simp] theorem reportNode_nextAcceptance :
    (s.reportNode slot k).nextAcceptance = s.nextAcceptance := by
  rw [reportNode_eq]; simp [setRelays]

theorem reportNode_node (i : Fin 64) : (s.reportNode slot k).nodes.get i =
    if slot = i then { k with statePending := k.statePending || k.state != (s.nodes.get slot).state }
    else s.nodes.get i := by
  rw [reportNode_eq]; simp [Table.get_set]

theorem reportNode_lane (n : Fin 128) : (s.reportNode slot k).lanes.get n =
    if k.state ≠ (s.nodes.get slot).state ∧ (s.lanes.get n).fedBy slot = true then
      s.judge (s.lanes.get n)
        ((if k.state.lost then (s.lanes.get n).nodeLost else s.lanes.get n).setDoubt
          (s.nodes.set slot { k with statePending := true }))
    else s.lanes.get n := by
  rw [reportNode_eq]; simp

theorem reportNode_sweep (g : Segment) : (s.reportNode slot k).sweep g = { s.sweep g with
    relays := if k.state ≠ (s.nodes.get slot).state ∧ k.state.lost = true ∧ segmentOf slot = g then
        loseRelays (s.active.sweep.get slot).address (s.sweep g).relays
      else (s.sweep g).relays } := by
  rw [reportNode_eq]
  by_cases hg : segmentOf slot = g
  · subst hg
    rw [setRelays_sweep]
    simp only [and_true]
    generalize segmentOf slot = h
    cases h <;> rfl
  · rw [setRelays, setSweep_sweep_ne _ _ hg]
    simp only [hg, and_false, if_false]
    cases g <;> rfl

end State

end Sys2Proof.Machine
end

