-- ==== Sys2Proof/Laws/Idle.lean ====
section
/-! SUPPORT. The tests by which an idle step finds a timed command that is due. -/

namespace Sys2Proof.Machine

theorem dueIf_eq_some {due : Bool} {c d : Instr} : dueIf due c = some d ↔ due = true ∧ c = d := by
  cases due <;> simp [dueIf]

theorem dueIf_eq_none {due : Bool} {c : Instr} : dueIf due c = none ↔ due = false := by
  cases due <;> simp [dueIf]

theorem deadlineDue_iff {now : Clock} {deadline : Option Clock} :
    deadlineDue now deadline = true ↔ ∃ d, deadline = some d ∧ 0 ≤ (now - d).toInt := by
  cases deadline <;> simp [deadlineDue, reached]

theorem SweepEngine.windowDue_iff {e : SweepEngine} : e.windowDue = true ↔
    ∃ v elapsed length, e.visit = some v ∧ v.stage = .window elapsed length ∧ length ≤ elapsed := by
  rw [SweepEngine.windowDue]
  cases e.visit with
  | none => simp
  | some v => cases hs : v.stage <;> simp [hs]

theorem SweepEngine.timerDue_iff {e : SweepEngine} {period : Nat} : e.timerDue period = true ↔
    (e.timerExpired = false ∧ period ≤ e.sinceStart) ∨ (e.timerExpired = true ∧ e.visit = none) := by
  cases h : e.timerExpired <;> simp [SweepEngine.timerDue, h]

theorem Beacon.phaseDue_iff {b : Beacon} :
    b.phaseDue = true ↔ ∃ high e, b = .flashing high e ∧ 500 ≤ e := by
  cases b with
  | off => simp [Beacon.phaseDue]
  | steady => simp [Beacon.phaseDue]
  | flashing high e =>
    refine decide_eq_true_iff.trans ⟨fun h => ⟨high, e, rfl, h⟩, ?_⟩
    rintro ⟨_, _, h, hle⟩
    cases h
    exact hle

end Sys2Proof.Machine
end

