-- ==== Sys2Proof/Laws/PerInstr.lean ====
section
/-! SUPPORT. For each command: the bytes a well-formed one carries are no more than its frame can hold. -/

namespace Sys2Proof.Laws.Operands

open Sys2Proof.Machine

/-- The bytes a command carries: the whole payload of a request, or the bytes of a reception. -/
def carried : Instr → List Byte
  | .coldStart => []
  | .identify _ fields => RequestCode.identify.code :: fields
  | .readStatus _ fields => RequestCode.readStatus.code :: fields
  | .writeStation _ fields => RequestCode.writeStation.code :: fields
  | .noticeOutput _ _ fields => RequestCode.noticeOutput.code :: fields
  | .writeCapture _ fields => RequestCode.writeCapture.code :: fields
  | .writeMask _ fields => RequestCode.writeMask.code :: fields
  | .writeCalibration _ fields => RequestCode.writeCalibration.code :: fields
  | .loadSweepList _ fields => RequestCode.loadSweepList.code :: fields
  | .commit _ fields => RequestCode.commit.code :: fields
  | .discard _ fields => RequestCode.discard.code :: fields
  | .writeLane _ fields => RequestCode.writeLane.code :: fields
  | .readLane _ fields => RequestCode.readLane.code :: fields
  | .zeroLane _ fields => RequestCode.zeroLane.code :: fields
  | .acknowledge _ fields => RequestCode.acknowledge.code :: fields
  | .writeGroup _ _ fields => RequestCode.writeGroup.code :: fields
  | .readNode _ fields => RequestCode.readNode.code :: fields
  | .releaseNode _ fields => RequestCode.releaseNode.code :: fields
  | .relay _ fields => RequestCode.relay.code :: fields
  | .aisleHold _ _ fields => RequestCode.aisleHold.code :: fields
  | .aisleRelease _ _ fields => RequestCode.aisleRelease.code :: fields
  | .restart _ fields => RequestCode.restart.code :: fields
  | .unknownRequest _ payload => payload
  | .broadcastDiscarded _ payload => payload
  | .resolutionCompletes => []
  | .buFrameReceived bytes => bytes
  | .bdFrameReceived bytes => bytes
  | .bdTransmit => []
  | .upstreamChoice => []
  | .zeroingDeadlineReached _ => []
  | .replenishDeadlineReached _ => []
  | .holdDeadlineReached => []
  | .noticeSpacingElapsed => []
  | .beaconPhaseToggle _ => []
  | .akeyLevelChange _ => []
  | .debounceExpiry => []
  | .holdTimerExpiry => []
  | .sweepTimerExpiry _ => []
  | .shelfTransmissionEnd _ => []
  | .replyWindowExpiry _ => []
  | .readingReceived _ bytes => bytes
  | .relayAnswerReceived _ bytes => bytes
  | .shelfFrameDiscarded _ => []
  | .shelfReceptionBegins _ => []

/-- The most bytes it can carry: a payload of 56 (Table 8-5), a backbone reception cut at 66 (R136), a
shelf reception cut at 32 (R109). -/
def limit : Instr → Nat
  | .coldStart => 0
  | .identify _ _ => 56
  | .readStatus _ _ => 56
  | .writeStation _ _ => 56
  | .noticeOutput _ _ _ => 56
  | .writeCapture _ _ => 56
  | .writeMask _ _ => 56
  | .writeCalibration _ _ => 56
  | .loadSweepList _ _ => 56
  | .commit _ _ => 56
  | .discard _ _ => 56
  | .writeLane _ _ => 56
  | .readLane _ _ => 56
  | .zeroLane _ _ => 56
  | .acknowledge _ _ => 56
  | .writeGroup _ _ _ => 56
  | .readNode _ _ => 56
  | .releaseNode _ _ => 56
  | .relay _ _ => 56
  | .aisleHold _ _ _ => 56
  | .aisleRelease _ _ _ => 56
  | .restart _ _ => 56
  | .unknownRequest _ _ => 56
  | .broadcastDiscarded _ _ => 56
  | .resolutionCompletes => 0
  | .buFrameReceived _ => 66
  | .bdFrameReceived _ => 66
  | .bdTransmit => 0
  | .upstreamChoice => 0
  | .zeroingDeadlineReached _ => 0
  | .replenishDeadlineReached _ => 0
  | .holdDeadlineReached => 0
  | .noticeSpacingElapsed => 0
  | .beaconPhaseToggle _ => 0
  | .akeyLevelChange _ => 0
  | .debounceExpiry => 0
  | .holdTimerExpiry => 0
  | .sweepTimerExpiry _ => 0
  | .shelfTransmissionEnd _ => 0
  | .replyWindowExpiry _ => 0
  | .readingReceived _ _ => 32
  | .relayAnswerReceived _ _ => 32
  | .shelfFrameDiscarded _ => 0
  | .shelfReceptionBegins _ => 0

def Statement (i : Instr) : Prop := i.wellFormed = true → (carried i).length ≤ limit i

/-- A request's fields fit behind its code. -/
theorem fields_fit {code : Byte} {fields : List Byte} (h : fieldsFit fields = true) :
    (code :: fields).length ≤ 56 := by
  have : fields.length < 56 := of_decide_eq_true h
  simpa using this

theorem payload_fits {kind : Byte → Bool} {payload : List Byte} (h : payloadFits kind payload = true) :
    payload.length ≤ 56 :=
  of_decide_eq_true (Bool.and_eq_true_iff.1 h).1

theorem backbone_fits {bytes : List Byte} (h : backboneReception bytes = true) : bytes.length ≤ 66 :=
  of_decide_eq_true (Bool.and_eq_true_iff.1 h).2

theorem shelf_fits {bytes : List Byte} (h : shelfReception bytes = true) : bytes.length ≤ 32 :=
  of_decide_eq_true (Bool.and_eq_true_iff.1 h).2

theorem coldStart : Statement .coldStart := fun _ => Nat.le_refl 0

theorem identify (tag : Byte) (fields : List Byte) : Statement (.identify tag fields) := fields_fit

theorem readStatus (tag : Byte) (fields : List Byte) : Statement (.readStatus tag fields) := fields_fit

theorem writeStation (tag : Byte) (fields : List Byte) : Statement (.writeStation tag fields) := fields_fit

theorem noticeOutput (b : Bool) (tag : Byte) (fields : List Byte) : Statement (.noticeOutput b tag fields) :=
  fields_fit

theorem writeCapture (tag : Byte) (fields : List Byte) : Statement (.writeCapture tag fields) := fields_fit

theorem writeMask (tag : Byte) (fields : List Byte) : Statement (.writeMask tag fields) := fields_fit

theorem writeCalibration (tag : Byte) (fields : List Byte) : Statement (.writeCalibration tag fields) := fields_fit

theorem loadSweepList (tag : Byte) (fields : List Byte) : Statement (.loadSweepList tag fields) := fields_fit

theorem commit (tag : Byte) (fields : List Byte) : Statement (.commit tag fields) := fields_fit

theorem discard (tag : Byte) (fields : List Byte) : Statement (.discard tag fields) := fields_fit

theorem writeLane (tag : Byte) (fields : List Byte) : Statement (.writeLane tag fields) := fields_fit

theorem readLane (tag : Byte) (fields : List Byte) : Statement (.readLane tag fields) := fields_fit

theorem zeroLane (tag : Byte) (fields : List Byte) : Statement (.zeroLane tag fields) := fields_fit

theorem acknowledge (tag : Byte) (fields : List Byte) : Statement (.acknowledge tag fields) := fields_fit

theorem writeGroup (b : Bool) (tag : Byte) (fields : List Byte) : Statement (.writeGroup b tag fields) :=
  fields_fit

theorem readNode (tag : Byte) (fields : List Byte) : Statement (.readNode tag fields) := fields_fit

theorem releaseNode (tag : Byte) (fields : List Byte) : Statement (.releaseNode tag fields) := fields_fit

theorem relay (tag : Byte) (fields : List Byte) : Statement (.relay tag fields) := fields_fit

theorem aisleHold (b : Bool) (tag : Byte) (fields : List Byte) : Statement (.aisleHold b tag fields) :=
  fields_fit

theorem aisleRelease (b : Bool) (tag : Byte) (fields : List Byte) : Statement (.aisleRelease b tag fields) :=
  fields_fit

theorem restart (tag : Byte) (fields : List Byte) : Statement (.restart tag fields) := fields_fit

theorem unknownRequest (tag : Byte) (payload : List Byte) : Statement (.unknownRequest tag payload) :=
  payload_fits

theorem broadcastDiscarded (tag : Byte) (payload : List Byte) : Statement (.broadcastDiscarded tag payload) :=
  payload_fits

theorem resolutionCompletes : Statement .resolutionCompletes := fun _ => Nat.le_refl 0

theorem buFrameReceived (bytes : List Byte) : Statement (.buFrameReceived bytes) := backbone_fits

theorem bdFrameReceived (bytes : List Byte) : Statement (.bdFrameReceived bytes) := backbone_fits

theorem bdTransmit : Statement .bdTransmit := fun _ => Nat.le_refl 0

theorem upstreamChoice : Statement .upstreamChoice := fun _ => Nat.le_refl 0

theorem zeroingDeadlineReached (n : Fin 128) : Statement (.zeroingDeadlineReached n) := fun _ => Nat.le_refl 0

theorem replenishDeadlineReached (n : Fin 128) : Statement (.replenishDeadlineReached n) := fun _ => Nat.le_refl 0

theorem holdDeadlineReached : Statement .holdDeadlineReached := fun _ => Nat.le_refl 0

theorem noticeSpacingElapsed : Statement .noticeSpacingElapsed := fun _ => Nat.le_refl 0

theorem beaconPhaseToggle (b : Fin 4) : Statement (.beaconPhaseToggle b) := fun _ => Nat.le_refl 0

theorem akeyLevelChange (b : Bool) : Statement (.akeyLevelChange b) := fun _ => Nat.le_refl 0

theorem debounceExpiry : Statement .debounceExpiry := fun _ => Nat.le_refl 0

theorem holdTimerExpiry : Statement .holdTimerExpiry := fun _ => Nat.le_refl 0

theorem sweepTimerExpiry (g : Segment) : Statement (.sweepTimerExpiry g) := fun _ => Nat.le_refl 0

theorem shelfTransmissionEnd (g : Segment) : Statement (.shelfTransmissionEnd g) := fun _ => Nat.le_refl 0

theorem replyWindowExpiry (g : Segment) : Statement (.replyWindowExpiry g) := fun _ => Nat.le_refl 0

theorem readingReceived (g : Segment) (bytes : List Byte) : Statement (.readingReceived g bytes) :=
  shelf_fits

theorem relayAnswerReceived (g : Segment) (bytes : List Byte) : Statement (.relayAnswerReceived g bytes) :=
  shelf_fits

theorem shelfFrameDiscarded (g : Segment) : Statement (.shelfFrameDiscarded g) := fun _ => Nat.le_refl 0

theorem shelfReceptionBegins (g : Segment) : Statement (.shelfReceptionBegins g) := fun _ => Nat.le_refl 0

end Sys2Proof.Laws.Operands
end

