-- ==== Sys2Proof/Laws/Requests.lean ====
section
/-! SUPPORT. What the delivery, the take and the answer of a request can do. -/

namespace Sys2Proof

theorem RequestCode.code_eq_byte (c : RequestCode) : c.code = c.byte := by cases c <;> rfl

theorem RequestCode.ofByte_eq_none {b : Byte} : RequestCode.ofByte b = none ↔ ∀ c : RequestCode, c.byte ≠ b := by
  have hall : ∀ c : RequestCode, c ∈ RequestCode.all := fun c => by cases c <;> decide
  simp only [RequestCode.ofByte, List.find?_eq_none, beq_iff_eq, RequestCode.code_eq_byte]
  exact ⟨fun h c => h c (hall c), fun h c _ => h c⟩

/-- The model's length check is Table 9-1's. -/
theorem RequestCode.fits_iff (c : RequestCode) (n : Nat) : c.fits n = true ↔ c.HasLength n := by
  cases c <;> simp only [RequestCode.fits, RequestCode.HasLength, beq_iff_eq, Bool.and_eq_true,
    decide_eq_true_eq]
  case loadSweepList =>
    exact ⟨fun h => ⟨(n - 3) / 2, by omega⟩, fun ⟨k, h⟩ => by omega⟩
  case acknowledge =>
    exact ⟨fun h => ⟨(n - 1) / 2, by omega⟩, fun ⟨k, h⟩ => by omega⟩
  case relay =>
    exact ⟨fun h => ⟨n - 4, by omega⟩, fun ⟨k, h⟩ => by omega⟩

end Sys2Proof

namespace Sys2Proof.Machine

namespace State

variable {s : State} {tag : Byte} {fields : List Byte}

theorem TakesAtOnce.ready (h : s.TakesAtOnce) : s.ready = true := by
  obtain ⟨_, he, hr, _⟩ := h
  simp [State.ready, he, hr]

/-- A station that takes at once executes a request at its delivery, and nothing waits after it. -/
theorem submit_taken (h : s.TakesAtOnce) (r : Request) : s.submit r = s.execute r := by
  obtain ⟨ha, he, hr, hi⟩ := h
  rcases s with ⟨_, _, ⟨_, _, _, _, _, _⟩, _, _, _, _, _, _, _, _, _⟩
  subst he hr hi
  simp [submit, ha, deliver, Config.intakeSize, takeRequests, takeUpTo, State.ready]

/-- An unassigned station has nothing delivered. -/
theorem submit_unassigned (h : s.backbone.address = none) (r : Request) : s.submit r = s := by
  simp [submit, h]

/-- Nothing is taken while the engine may not take. -/
theorem takeUpTo_of_not_ready (h : s.ready = false) (fuel : Nat) : s.takeUpTo fuel = s := by
  cases fuel <;> simp [takeUpTo, h]

/-- With nothing waiting nothing is taken. -/
theorem takeRequests_of_empty (h : s.mgmt.intake = []) : s.takeRequests = s := by
  simp [takeRequests, h, takeUpTo]

@[simp] theorem ofByte_code (code : RequestCode) : RequestCode.ofByte code.code = some code := by
  cases code <;> decide

/-- A unicast request of a known code that is not a COMMIT of the right length is answered by its rule. -/
theorem execute_unicast (code : RequestCode)
    (h : (code = .commit && code.fits (fields.length + 1)) = false) :
    s.execute (unicast code tag fields) = reply tag code (s.answer code tag (code.code :: fields)) := by
  simp only [execute, unicast, executeUnicast, ofByte_code, List.length_cons]
  simp [h]

/-- A COMMIT of the right length begins resolution. -/
theorem execute_commit : s.execute (unicast .commit tag []) = s.beginCommit tag := by
  simp [execute, unicast, executeUnicast, RequestCode.fits]

/-- An accepted broadcast is executed without a reply. -/
theorem execute_broadcast (code : RequestCode) (h : code.broadcastable = true) :
    s.execute (addressed true code tag fields) = (s.answer code tag (code.code :: fields)).state := by
  simp [execute, addressed, executeBroadcast, h]

/-- A length that does not fit is refused before the request's own rule (R158). -/
theorem answer_of_not_fits (code : RequestCode) (p : List Byte) (h : code.fits p.length = false) :
    s.answer code tag p = s.refuse .badLength := by
  simp [answer, h]

theorem answer_of_fits (code : RequestCode) (p : List Byte) (h : code.fits p.length = true) :
    s.answer code tag p = s.perform code tag p := by
  simp [answer, h]

theorem reply_refuse (code : RequestCode) (r : Result) :
    reply tag code (s.refuse r) = s.answered tag [code.code, byteOf r.code] := rfl

theorem reply_done (code : RequestCode) : reply tag code s.done = s.answered tag [code.code, 0x00] := rfl

end State

/-! ### The commands -/

variable {s : State} {tag : Byte} {fields : List Byte}

/-- A unicast request command at a station that takes at once. -/
theorem exec_command (h : s.TakesAtOnce) (code : RequestCode)
    (hc : (code = .commit && code.fits (fields.length + 1)) = false) :
    exec (code.command tag fields) s =
      .next (State.reply tag code (s.answer code tag (code.code :: fields))) := by
  have hx : exec (code.command tag fields) s = .next (s.submit (unicast code tag fields)) := by
    cases code <;> rfl
  rw [hx, State.submit_taken h, State.execute_unicast code hc]

/-- A unicast request command whose length fits. -/
theorem exec_command_fits (h : s.TakesAtOnce) (code : RequestCode) (hc : code ≠ .commit)
    (hf : code.fits (fields.length + 1) = true) :
    exec (code.command tag fields) s =
      .next (State.reply tag code (s.perform code tag (code.code :: fields))) := by
  rw [exec_command h code (by simp [hc]), State.answer_of_fits code _ (by simpa using hf)]

/-- The same for a request that may also be broadcast: a broadcast is not answered. -/
theorem exec_broadcast_fits (h : s.TakesAtOnce) (code : RequestCode) (hc : code.broadcastable = true)
    (hf : code.fits (fields.length + 1) = true) :
    s.submit (addressed true code tag fields) = (s.perform code tag (code.code :: fields)).state := by
  rw [State.submit_taken h, State.execute_broadcast code hc, State.answer_of_fits code _ (by simpa using hf)]

end Sys2Proof.Machine
end

