-- ==== Sys2Proof/Laws/Sweep.lean ====
section
/-! SUPPORT. Sweeps and visits: which slot comes next, and what the end of a visit leaves. -/

namespace Sys2Proof.Machine

theorem mem_slotsOf (g : Segment) (i : Fin 64) : i ∈ slotsOf g ↔ segmentOf i = g := by
  simp [slotsOf]

/-- The slots of a segment stand in rising order. -/
theorem slotsOf_sorted (g : Segment) : (slotsOf g).Pairwise (· < ·) :=
  List.Pairwise.filter _ (List.pairwise_lt_finRange 64)

theorem Image.occupiedFrom_none {image : Image} {g : Segment} {low : Nat} :
    image.occupiedFrom g low = none ↔ image.NoneFrom g low := by
  simp only [Image.occupiedFrom, List.find?_eq_none, mem_slotsOf, Image.NoneFrom]
  constructor
  · intro h j hj hl
    have := h j hj
    simp_all
  · intro h j hj
    by_cases hl : low ≤ j.val
    · simp [h j hj hl]
    · simp [hl]

theorem Image.occupiedFrom_some {image : Image} {g : Segment} {low : Nat} {slot : Fin 64}
    (h : image.occupiedFrom g low = some slot) : image.FirstFrom g low slot := by
  have hs := List.find?_some h
  have hm := List.mem_of_find?_eq_some h
  rw [mem_slotsOf] at hm
  simp only [Bool.and_eq_true, decide_eq_true_eq] at hs
  refine ⟨hm, hs.1, hs.2, fun j hj hl ho => ?_⟩
  obtain ⟨_, as, bs, he, hn⟩ := List.find?_eq_some_iff_append.1 h
  by_contra hlt
  have hjm : j ∈ slotsOf g := (mem_slotsOf g j).2 hj
  have hsorted := slotsOf_sorted g
  rw [he] at hjm hsorted
  rw [List.mem_append, List.mem_cons] at hjm
  rcases hjm with hj1 | hj1 | hj1
  · have := hn j hj1
    simp [hl, ho] at this
  · subst hj1
    exact hlt (Nat.le_refl _)
  · have h1 := (List.pairwise_append.1 hsorted).2.1
    have := (List.pairwise_cons.1 h1).1 j hj1
    exact hlt (Nat.le_of_lt this)

/-- The first occupied slot is one only. -/
theorem Image.FirstFrom.unique {image : Image} {g : Segment} {low : Nat} {i j : Fin 64}
    (hi : image.FirstFrom g low i) (hj : image.FirstFrom g low j) : i = j :=
  Fin.ext (Nat.le_antisymm (hi.2.2.2 j hj.1 hj.2.1 hj.2.2.1) (hj.2.2.2 i hi.1 hi.2.1 hi.2.2.1))

theorem Image.occupiedFrom_iff {image : Image} {g : Segment} {low : Nat} {slot : Fin 64} :
    image.occupiedFrom g low = some slot ↔ image.FirstFrom g low slot := by
  refine ⟨Image.occupiedFrom_some, fun h => ?_⟩
  cases ho : image.occupiedFrom g low with
  | none =>
    have := Image.occupiedFrom_none.1 ho slot h.1 h.2.1
    rw [h.2.2.1] at this
    cases this
  | some j => rw [(Image.occupiedFrom_some ho).unique h]

theorem beginVisit_eq (e : SweepEngine) (image : Image) (slot : Fin 64) :
    beginVisit e image slot = Visit.begun image slot e.stray := rfl

/-- A sweep begins as R105 and R107 say. -/
theorem SweepEngine.startSweep_begun (image : Image) (g : Segment) (e : SweepEngine) :
    SweepEngine.Begun image g e (e.startSweep image g) := by
  refine ⟨fun slot h => ?_, fun h => ?_⟩
  · rw [SweepEngine.startSweep, Image.occupiedFrom_iff.2 h]; rfl
  · rw [SweepEngine.startSweep, Image.occupiedFrom_none.2 h]; rfl

/-- A visit ends as R105 and R107 say. -/
theorem SweepEngine.endVisit_movedOn (image : Image) (g : Segment) (slot : Fin 64) (e : SweepEngine) :
    SweepEngine.MovedOn image g slot e (e.endVisit image g slot) := by
  refine ⟨fun next h => ?_, fun h ho => ?_, fun h ho => ?_⟩
  · rw [SweepEngine.endVisit, Image.occupiedFrom_iff.2 h]; rfl
  · rw [SweepEngine.endVisit, Image.occupiedFrom_none.2 h]; simp [ho]
  · rw [SweepEngine.endVisit, Image.occupiedFrom_none.2 h]
    simp only [ho, if_true]
    exact SweepEngine.startSweep_begun image g _

/-- A failed attempt at a relay is the statements' (R117). -/
theorem Relay.fail_eq (r : Relay) : r.fail = r.attemptFailed := rfl

/-- How a visit moves on does not depend on the visit that ends. -/
theorem SweepEngine.MovedOn.of_visit {image : Image} {g : Segment} {slot : Fin 64}
    {e f : SweepEngine} {v : Option Visit}
    (h : SweepEngine.MovedOn image g slot { e with visit := v } f) :
    SweepEngine.MovedOn image g slot e f := h

namespace State

variable (s : State) (g : Segment) (v : Visit)

@[simp] theorem endVisit_sweep :
    (s.endVisit g v).sweep g = (s.sweep g).endVisit s.active g v.slot := by simp [endVisit]
theorem endVisit_sweep_ne {h : Segment} (hne : h ≠ g) : (s.endVisit g v).sweep h = s.sweep h :=
  setSweep_sweep_ne s _ (Ne.symm hne)
@[simp] theorem endVisit_pending : (s.endVisit g v).pending = s.pending := by simp [endVisit]
@[simp] theorem endVisit_backbone : (s.endVisit g v).backbone = s.backbone := by simp [endVisit]
@[simp] theorem endVisit_mgmt : (s.endVisit g v).mgmt = s.mgmt := by simp [endVisit]
@[simp] theorem endVisit_notice : (s.endVisit g v).notice = s.notice := by simp [endVisit]
@[simp] theorem endVisit_staged : (s.endVisit g v).staged = s.staged := by simp [endVisit]
@[simp] theorem endVisit_active : (s.endVisit g v).active = s.active := by simp [endVisit]
@[simp] theorem endVisit_lanes : (s.endVisit g v).lanes = s.lanes := by simp [endVisit]
@[simp] theorem endVisit_nodes : (s.endVisit g v).nodes = s.nodes := by simp [endVisit]
@[simp] theorem endVisit_sequences : (s.endVisit g v).sequences = s.sequences := by simp [endVisit]
@[simp] theorem endVisit_nextAcceptance :
    (s.endVisit g v).nextAcceptance = s.nextAcceptance := by simp [endVisit]

end State

/-- The end of a visit leaves the relay queue. -/
@[simp] theorem SweepEngine.endVisit_relays (image : Image) (g : Segment) (slot : Fin 64)
    (e : SweepEngine) : (e.endVisit image g slot).relays = e.relays := by
  unfold SweepEngine.endVisit
  split
  · rfl
  · split <;> rfl

end Sys2Proof.Machine
end

