-- ==== Sys2Proof/Laws/Switch.lean ====
section
/-! SUPPORT. The Backbone Switch: what forwarding, a counted fault and a delivery leave. -/

namespace Sys2Proof.Machine

namespace State

variable (s : State) (f : Frame)

theorem forwardDown_eq : s.forwardDown f = s.forwarded f := rfl

theorem buFault_eq : s.buFault = s.buFaulted := rfl

/-- Forwarding touches nothing but the down FIFO and its drop count. -/
theorem forwarded_frame : s.forwarded f = { s with backbone := { s.backbone with
    downFifo := (s.forwarded f).backbone.downFifo
    downDrops := (s.forwarded f).backbone.downDrops } } := by
  simp only [forwarded]
  split <;> rfl

/-- The command that stands for a request delivers it (log 1). -/
theorem exec_delivery (q : Request) : exec q.delivery s = .next (s.submit q) := by
  rcases q with ⟨tag, _ | _, payload⟩ <;> rfl

end State

end Sys2Proof.Machine
end

