-- ==== Sys2Proof/Tests/Slice0.lean ====
section
/-! SUPPORT. Our own tests. Expected results come from the tables and worked cases of spec/, named in
each comment. After them, for every statement with hypotheses, states and operands that meet them. -/

namespace Sys2Proof.Tests

-- The kernel's evaluations one after another: side by side they hold too much memory.
set_option Elab.async false

open Sys2Proof.Machine

/-- The state a command leaves. -/
def after (c : Instr) (s : State) : State :=
  match exec c s with
  | .next t => t
  | .fault _ => s
  | .refused _ => s

/-- The payload of the reply a request gets. -/
def answerTo (c : Instr) (s : State) : Option (List Byte) := (after c s).mgmt.reply.map Reply.payload

def bytes (xs : List Nat) : List Byte := xs.map byteOf

/-- A station with address 5, otherwise as after reset. -/
def station : State := { State.reset with backbone := { Backbone.cold with address := some 5 } }

/-- The station with lane 17 as given. -/
def withLane (l : Lane) : State := { station with lanes := station.lanes.set 17 l }

/-- The station with segment A's engine as given, node A-12 with one cell in slot 5. -/
def withSweep (e : SweepEngine) : State := { station with
  sweepA := e
  active := { Image.cold with sweep := Image.cold.sweep.set 5 ⟨true, 12, 1, true, true⟩ } }

/-- Segment A waiting for the reply of node A-12 to its POLL. -/
def polling : SweepEngine := { SweepEngine.cold with
  timerExpired := false
  visit := some ⟨5, 12, 1, true, false, none, pollFrame 12, .window 0 3⟩ }

/-- Lane 17 of Table 3-5 as the worked case of chapter 3 leaves it at its first count, but with the
one cell of slot 5. -/
def worked : Lane := { Lane.cold with
  config := { LaneConfig.cold with
    enabled := true, unitWeight := 10500, tare := 25000, capacity := 60, lowMark := 18
    criticalMark := 6, hysteresis := 3, settleBand := 50, tolFixed := 300, tolUnit := 40
    group := 2, reportCounts := true }
  state := .steady
  cells := [⟨⟨5, 0⟩, false, some ⟨277894, .valid⟩⟩]
  window := [277892, 277880, 277910, 277894]
  count := 24, settled := some 277894, band := .stocked }

/-- A READING of node A-12. -/
def reading (sequence flags : Nat) (raw : BitVec 24) : List Byte :=
  shelfFrame ([0x0C, 0x22, byteOf sequence, byteOf flags, 0x01] ++ be3 raw.toNat ++ [0x00])

/-! ### What the manual tabulates -/

/-- The usual check values of the two CRCs, on the digits 1 to 9 (not in the manual, which gives the
polynomials and initial values). -/
theorem test_crc_check_values :
    crc16 (bytes [0x31, 0x32, 0x33, 0x34, 0x35, 0x36, 0x37, 0x38, 0x39]) = 0x29B1
    ∧ crc8 (bytes [0x31, 0x32, 0x33, 0x34, 0x35, 0x36, 0x37, 0x38, 0x39]) = 0xF4 := by
  decide +kernel

/-- Table 3-1. -/
theorem test_rounding : roundDiv 10 4 = 3 ∧ roundDiv (-10) 4 = -3 ∧ roundDiv 9 4 = 2
    ∧ roundDiv (-9) 4 = -2 ∧ roundDiv 1000001 3 = 333334 ∧ roundDiv 5250 10500 = 1
    ∧ roundDiv 5249 10500 = 0 ∧ roundDiv (-2) 4 = -1 := by decide

/-- Table 2-6. -/
theorem test_conversion : convert ⟨0, 8192⟩ ⟨500, .valid⟩ = ⟨63, .valid⟩
    ∧ convert ⟨0, 8192⟩ ⟨-500, .valid⟩ = ⟨-63, .valid⟩
    ∧ convert ⟨0, 65535⟩ ⟨1000000, .valid⟩ = ⟨999985, .valid⟩
    ∧ convert ⟨-8000000, 8192⟩ ⟨8000000, .valid⟩ = ⟨2000000, .valid⟩ := by decide

/-- Table 3-2, under the cold defaults. -/
theorem test_count_limits : estimate .cold (-150) = ⟨0, true⟩ ∧ estimate .cold (-250) = ⟨0, false⟩
    ∧ estimate .cold 180 = ⟨0, true⟩ ∧ estimate .cold 499 = ⟨0, false⟩
    ∧ estimate .cold 500 = ⟨1, false⟩ ∧ estimate .cold 2500 = ⟨3, false⟩
    ∧ estimate .cold 1150 = ⟨1, true⟩ ∧ estimate .cold 120300 = ⟨120, true⟩
    ∧ estimate .cold 4095499 = ⟨4095, true⟩ ∧ estimate .cold 4095600 = ⟨4095, false⟩ := by decide

/-- Table 4-1, the walk from EMPTY. -/
theorem test_band_walk : ([1, 2, 3, 7, 8, 22, 23, 20, 21, 5, 0].foldl
    (fun (x : List Band × Band) n =>
      let b := nextBand .cold x.2 n
      (x.1 ++ [b], b)) ([], .empty)).1 =
    [.empty, .empty, .critical, .critical, .low, .low, .stocked, .low, .low, .critical, .empty] := by
  decide

/-! ### Commands -/

theorem test_cold_start : (after .coldStart station).backbone.address = none := by decide +kernel

/-- Table 9-3, the cold start values, and R163. -/
theorem test_identify : answerTo (.identify 7 []) station = some (bytes
    [0x01, 0x00, 0x1C, 0xFC, 0, 5, 0, 0, 20, 4, 30, 10, 6, 0, 100, 3, 0, 100, 3]) := by decide +kernel

theorem test_identify_bad_length : answerTo (.identify 7 [0x00]) station = some [0x01, 0x02] := by
  decide +kernel

/-- Table 9-4 after a start: 23 bytes of fields, all 0. -/
theorem test_read_status : answerTo (.readStatus 7 []) station =
    some (0x02 :: 0x00 :: List.replicate 22 0x00) := by decide +kernel

/-- A burst of 9 is clamped to 8 with ADJUSTED (R162). -/
theorem test_write_station : answerTo
    (.writeStation 7 (bytes [1, 0, 20, 9, 30, 10, 6, 0, 100, 3, 0, 100, 3])) station =
    some [0x03, 0x01] := by decide +kernel

theorem test_notice_output : (after (.noticeOutput true 7 [0x01]) station).notice.output = .held := by
  decide +kernel

/-- Table 9-1: entry, valid, segment, address, cell, mask slot, lane. -/
theorem test_write_capture :
    (after (.writeCapture 7 (bytes [3, 1, 1, 12, 2, 1, 17])) station).staged.captures.get 3 =
    ⟨true, .b, 12, 2, 1, 17⟩ := by decide +kernel

theorem test_write_capture_no_such :
    answerTo (.writeCapture 7 (bytes [64, 1, 9, 12, 2, 1, 17])) station = some [0x10, 0x04] := by
  decide +kernel

theorem test_write_mask : (after (.writeMask 7 (bytes [2, 0, 0x0F, 1])) station).staged.masks.get 2 =
    ⟨false, 0x0F, true⟩ := by decide +kernel

/-- A zero of −2,000 is FFF830h. -/
theorem test_write_calibration :
    (after (.writeCalibration 7 (bytes [0, 24, 0xFF, 0xF8, 0x30, 0x20, 0x08])) station).staged.calibration.get
      24 = ⟨-2000, 8200⟩ := by decide +kernel

/-- Record bytes 8Ch, 19h: occupied, address 12, one cell, mirror, auto-recover (Table 9-1, note 1). -/
theorem test_load_sweep_list :
    (after (.loadSweepList 7 (bytes [1, 3, 0x8C, 0x19])) station).staged.sweep.get 35 =
    ⟨true, 12, 1, true, true⟩ := by decide +kernel

/-- Two positions with one address (R23, check 4). -/
theorem test_load_sweep_list_duplicate :
    answerTo (.loadSweepList 7 (bytes [0, 3, 0x8C, 0x19, 0x8C, 0x19])) station =
    some [0x13, 0x03] := by decide +kernel

theorem test_commit_not_answered : answerTo (.commit 7 []) station = none := by decide +kernel

theorem test_resolution_completes :
    answerTo .resolutionCompletes (after (.commit 7 []) station) = some [0x14, 0x00, 0x00, 0x00] := by
  decide +kernel

/-- R24: a staged mask is lost. -/
theorem test_discard : (after (.discard 7 []) { station with
    staged := { Image.cold with masks := .const 4 ⟨false, 0x0F, true⟩ } }).staged.masks.get 2 =
    ⟨true, 0x3F, true⟩ := by decide +kernel

/-- Lane 17 with a settle count of 9, clamped to 8 with ADJUSTED (R1). -/
theorem test_write_lane : answerTo (.writeLane 7 (bytes ([17, 1, 0, 0, 0, 77, 0x29, 0x04, 0, 0, 0x61,
    0xA8, 0, 60, 0, 18, 0, 6, 3, 9, 0, 50, 1, 44, 40, 20, 1, 44, 2, 1]))) station =
    some [0x20, 0x01] := by decide +kernel

theorem test_write_lane_config : ((after (.writeLane 7 (bytes ([17, 1, 0, 0, 0, 77, 0x29, 0x04, 0, 0,
    0x61, 0xA8, 0, 60, 0, 18, 0, 6, 3, 4, 0, 50, 1, 44, 40, 20, 1, 44, 2, 1]))) station).lanes.get
    17).config = { worked.config with product := 77 } := by decide +kernel

/-- Table 9-5, part CELLS: one cell, slot 5 cell 0, not fresh, 277,894 g VALID. -/
theorem test_read_lane_cells : answerTo (.readLane 7 [0x11, 0x01]) (withLane worked) =
    some (bytes [0x21, 0x00, 1, 5, 0, 2, 0x00, 0x04, 0x3D, 0x86, 0]) := by decide +kernel

/-- R13: a STEADY lane goes to MOVING, with its deadline 30,000 ms on. -/
theorem test_zero_lane :
    let l := (after (.zeroLane 7 [0x11]) (withLane worked)).lanes.get 17
    l.state = .moving ∧ l.window = [] ∧ l.zeroDeadline = some 30000 := by decide +kernel

theorem test_zero_lane_unbound : answerTo (.zeroLane 7 [0x11]) station = some [0x22, 0x05] := by
  decide +kernel

/-- R78: the second pair fails, and the first is not applied. -/
theorem test_acknowledge_refused :
    let s := after (.acknowledge 7 (bytes [17, 2, 128, 9])) (withLane worked)
    s.mgmt.reply = some ⟨7, [0x23, 0x04]⟩ ∧ (s.lanes.get 17).refBand = .stocked := by decide +kernel

/-- R79: a lane acknowledged at a band it does not hold is left with agree no. -/
theorem test_acknowledge :
    let l := (after (.acknowledge 7 (bytes [17, 2])) (withLane worked)).lanes.get 17
    l.refBand = .low ∧ l.agree = false ∧ l.alertPending = false := by decide +kernel

theorem test_write_group :
    (after (.writeGroup true 7 (bytes [2, 1, 5, 2, 1])) station).notice.groups.get 2 =
    ⟨true, 5, .both, 1⟩ := by decide +kernel

/-- Table 9-1: segment, address, state, score, miss run, probe run, flags. -/
theorem test_read_node : answerTo (.readNode 7 [0x05]) (withSweep polling) =
    some (bytes [0x30, 0x00, 0, 12, 0, 0, 0, 0, 0]) := by decide +kernel

theorem test_release_node : answerTo (.releaseNode 7 [0x40]) station = some [0x31, 0x04] := by
  decide +kernel

/-- R115: no node stands at B-12, so the relay ends NO_NODE at its acceptance. -/
theorem test_relay : (after (.relay 7 (bytes [1, 12, 0, 0xAA])) station).sweepB.relays =
    [⟨0, 7, 12, false, [0xAA], 0, some .noNode⟩] := by decide +kernel

/-- R100: a hold of 30 minutes. -/
theorem test_aisle_hold : (after (.aisleHold false 7 []) station).notice.holdDeadline =
    some 1800000 := by decide +kernel

theorem test_aisle_release :
    (after (.aisleRelease true 7 []) (after (.aisleHold true 7 []) station)).notice.holdDeadline =
    none := by decide +kernel

theorem test_restart : (after (.restart 7 []) station).mgmt.engine = .restarting := by decide +kernel

theorem test_unknown_request : answerTo (.unknownRequest 7 [0x99, 0x01]) station = some [0x99, 0x04] := by
  decide +kernel

theorem test_broadcast_discarded : after (.broadcastDiscarded 7 [0x01]) station = station := by
  decide +kernel

/-- R147: next 999 gives the last address and sends 0 on. -/
theorem test_enumerate :
    let s := after (.buFrameReceived (Frame.encode ⟨0x56, 0xFFFF, 0, 0, be2 999⟩)) State.reset
    s.backbone.address = some 999 ∧ s.backbone.downFifo = [⟨0x56, 0xFFFF, 0, 0, be2 0⟩] := by
  decide +kernel

/-- R150: a TIME frame for the station. -/
theorem test_time :
    (after (.buFrameReceived (Frame.encode ⟨0x55, 5, 0, 0, be4 0x01020304⟩)) station).backbone.clock =
    0x01020304 := by decide +kernel

/-- R140: a frame with one bit changed is rejected and counted. -/
theorem test_bd_frame_rejected :
    (after (.bdFrameReceived ((Frame.encode ⟨0x53, 0, 9, 0, []⟩).set 0 0x52)) station).backbone.bdFaults =
    1 := by decide +kernel

theorem test_bd_transmit : (after .bdTransmit { station with backbone := { station.backbone with
    downFifo := [⟨0x51, 6, 0, 1, []⟩, ⟨0x51, 7, 0, 1, []⟩] } }).backbone.downFifo =
    [⟨0x51, 7, 0, 1, []⟩] := by decide +kernel

/-- R142 to R144: a REPLY leaves with destination 0 and the station's address as source. -/
theorem test_upstream_choice :
    (after .upstreamChoice (after (.discard 7 []) station)).backbone.buTx =
    some ⟨0x52, 0, 5, 7, [0x15, 0x00]⟩ := by decide +kernel

/-- R15. -/
theorem test_zeroing_deadline :
    let s := after (.zeroingDeadlineReached 17) (after (.zeroLane 7 [0x11]) (withLane worked))
    s.backbone.clock = 30000 ∧ (s.lanes.get 17).zeroResult = some .timeout := by decide +kernel

/-- R72, R70: at the end of the freeze a STEADY lane whose band is not its ref band loses agreement and
raises. -/
theorem test_replenish_deadline :
    let l := (after (.replenishDeadlineReached 17)
      (withLane { worked with band := .low, replenishDeadline := some 500 })).lanes.get 17
    l.agree = false ∧ l.alertPending = true ∧ l.raiseTime = some 500 := by decide +kernel

theorem test_hold_deadline :
    let s := after .holdDeadlineReached (after (.aisleHold false 7 []) station)
    s.backbone.clock = 1800000 ∧ s.notice.holdDeadline = none := by decide +kernel

theorem test_notice_spacing : (after .noticeSpacingElapsed { station with notice := { station.notice with
    spacing := some 5 } }).backbone.clock = 15 := by decide +kernel

theorem test_beacon_toggle : (after (.beaconPhaseToggle 1) { station with notice := { station.notice with
    beacons := station.notice.beacons.set 1 (.flashing true 100) } }).notice.beacons.get 1 =
    .flashing false 0 := by decide +kernel

theorem test_akey_level : (after (.akeyLevelChange true) station).notice.debounce = some 0 := by
  decide +kernel

/-- R97, R98: 20 ms later the key is pressed. -/
theorem test_debounce :
    let s := after .debounceExpiry (after (.akeyLevelChange true) station)
    s.backbone.clock = 20 ∧ s.notice.key = .pressed 0 ∧ s.notice.keyFlag = true := by decide +kernel

/-- R98: 4,000 ms later the long press starts aisle hold. -/
theorem test_hold_timer :
    let s := after .holdTimerExpiry { station with notice := { station.notice with key := .pressed 0 } }
    s.notice.key = .long ∧ s.notice.holdDeadline = some 1804000 := by decide +kernel

/-- R105, R107, R108: the sweep begins with the POLL of its first occupied slot, sent with CRC-8. -/
theorem test_sweep_timer :
    (after (.sweepTimerExpiry .a) (withSweep .cold)).sweepA.visit.map (fun v => (v.slot, v.frame.take 2)) =
    some (5, [0x0C, 0x21]) := by decide +kernel

theorem test_transmission_end : (after (.shelfTransmissionEnd .a) (withSweep { polling with
    visit := polling.visit.map (fun v => { v with stage := .sending }) })).sweepA.visit = polling.visit := by
  decide +kernel

/-- R126: a missed outcome adds 8 to the score. -/
theorem test_window_expiry :
    let n := (after (.replyWindowExpiry .a) (withSweep polling)).nodes.get 5
    n.score = 8 ∧ n.missRun = 1 ∧ n.missedSeen = true := by decide +kernel

/-- R112, R33: a good READING stores the cell's value, 500 / 8 rounded to 63 g. -/
theorem test_reading : (((after (.readingReceived .a (reading 1 0 500)) { withSweep polling with
    lanes := station.lanes.set 17 { worked with
      cells := [⟨⟨5, 0⟩, false, none⟩, ⟨⟨6, 0⟩, false, none⟩] } }).lanes.get 17).cells.map
        LaneCell.value) = [some ⟨63, .valid⟩, none] := by decide +kernel

/-- R114: the MIRROR of a reading of slot 5, A-12, sequence 1, key released, one cell. -/
theorem test_reading_mirrored :
    (after (.readingReceived .a (reading 1 0 500)) (withSweep polling)).backbone.mirror =
    some (bytes [0, 0, 0, 0, 5, 0, 12, 1, 0, 1, 0x00, 0x01, 0xF4, 0]) := by decide +kernel

/-- R117: answer 02h refuses the relay. -/
theorem test_relay_answer :
    (after (.relayAnswerReceived .a (shelfFrame [0x0C, 0x24, 0x02])) (withSweep { polling with
      visit := polling.visit.map (fun v => { v with relay := some 4 })
      relays := [⟨4, 9, 12, true, [0xAA], 1, none⟩] })).sweepA.relays =
    [⟨4, 9, 12, true, [0xAA], 1, some .refused⟩] := by decide +kernel

theorem test_reception_begins :
    (after (.shelfReceptionBegins .a) (withSweep polling)).sweepA.visit.map Visit.stage =
    some .receiving := by decide +kernel

/-- R109: a frame that waited for the line is sent when the stray reception ends. -/
theorem test_frame_discarded :
    (after (.shelfFrameDiscarded .a) (withSweep { polling with
      stray := true
      visit := polling.visit.map (fun v => { v with stage := .waiting }) })).sweepA.visit.map
        Visit.stage = some .sending := by decide +kernel

/-! ### Well-formedness: an ill-formed term for each check -/

theorem test_fields_too_long : Instr.wellFormed (.identify 0 (List.replicate 56 0)) = false
    ∧ Instr.wellFormed (.identify 0 (List.replicate 55 0)) = true
    ∧ Instr.wellFormed (.writeGroup true 0 (List.replicate 56 0)) = false := by decide

theorem test_payload_of_known_code : Instr.wellFormed (.unknownRequest 0 [0x01]) = false
    ∧ Instr.wellFormed (.unknownRequest 0 [0x05]) = true
    ∧ Instr.wellFormed (.unknownRequest 0 []) = true
    ∧ Instr.wellFormed (.unknownRequest 0 (0x05 :: List.replicate 56 0)) = false := by decide

theorem test_broadcast_of_accepted_code : Instr.wellFormed (.broadcastDiscarded 0 [0x40]) = false
    ∧ Instr.wellFormed (.broadcastDiscarded 0 [0x4F]) = true := by decide

theorem test_backbone_reception_sizes : Instr.wellFormed (.buFrameReceived []) = false
    ∧ Instr.wellFormed (.bdFrameReceived (List.replicate 67 0)) = false
    ∧ Instr.wellFormed (.buFrameReceived (List.replicate 66 0)) = true := by decide

theorem test_shelf_reception_sizes : Instr.wellFormed (.readingReceived .a []) = false
    ∧ Instr.wellFormed (.relayAnswerReceived .b (List.replicate 33 0)) = false
    ∧ Instr.wellFormed (.readingReceived .b (List.replicate 32 0)) = true := by decide

/-! ### States and operands that meet the statements' hypotheses -/

theorem station_takes : station.TakesAtOnce := ⟨rfl, rfl, rfl, rfl⟩

theorem withLane_takes (l : Lane) : (withLane l).TakesAtOnce := ⟨rfl, rfl, rfl, rfl⟩

/-- Both sweep timers running: nothing is due. -/
def quiet : State := { station with
  sweepA := { SweepEngine.cold with timerExpired := false }
  sweepB := { SweepEngine.cold with timerExpired := false } }

/-- The station with a REPLY waiting and this many requests behind it. -/
def busy (k : Nat) : State := { station with mgmt := { Management.cold with
  reply := some ⟨7, [0x15, 0x00]⟩
  intake := List.replicate k ⟨8, false, [0x15]⟩ } }

theorem witness_EmptyQueueLetsTimePass : quiet.dueCommand = none
    ∧ State.reset.dueCommand = some (.sweepTimerExpiry .a)
    ∧ TimedDue State.reset 2 (.sweepTimerExpiry .a) :=
  ⟨by decide +kernel, by decide +kernel, .sweepStart .a rfl rfl⟩

/-- A station whose RESTART reply waits. -/
def restarting : State := { station with mgmt := { Management.cold with
  reply := some ⟨7, [0x4F, 0x00]⟩
  engine := .restarting } }

/-- Of the deferred lanes 3 and 4, both of group 0, the one due earlier is first in the queue order. -/
theorem witness_RestartReplyTakenIsWarmStart : restarting.LocalTurn
    ∧ restarting.backbone.address = some 5 ∧ restarting.mgmt.reply = some ⟨7, [0x4F, 0x00]⟩
    ∧ restarting.mgmt.engine = .restarting ∧ restarting.DueComparable [.lane 3, .lane 4] :=
  ⟨⟨rfl, .inl rfl⟩, rfl, rfl, rfl, 0, by decide +kernel⟩

theorem witness_RequestsWaitTheirTurn : State.reset.backbone.address = none
    ∧ (busy 3).backbone.address.isSome = true ∧ (busy 3).mgmt.reply ≠ none
    ∧ (busy 3).mgmt.intake.length < 4 ∧ 4 ≤ (busy 4).mgmt.intake.length
    ∧ restarting.mgmt.engine ≠ .idle := by
  refine ⟨rfl, rfl, ?_, ?_, ?_, ?_⟩ <;> simp [busy, restarting]

/-- Table 9-1 at the edges: LOAD SWEEP LIST of one record and of 16, ACKNOWLEDGE of twelve pairs, RELAY of
16 bytes, and the lengths beside them. -/
theorem witness_RefusedByCodeOrLength : station.TakesAtOnce ∧ (∀ code : RequestCode, code.byte ≠ 0x05)
    ∧ ¬ RequestCode.identify.HasLength (1 + 1)
    ∧ RequestCode.loadSweepList.HasLength 5 ∧ RequestCode.loadSweepList.HasLength 35
    ∧ ¬ RequestCode.loadSweepList.HasLength (2 + 1) ∧ ¬ RequestCode.loadSweepList.HasLength (36 + 1)
    ∧ RequestCode.acknowledge.HasLength 25 ∧ ¬ RequestCode.acknowledge.HasLength (26 + 1)
    ∧ RequestCode.relay.HasLength 20 ∧ ¬ RequestCode.relay.HasLength (20 + 1)
    ∧ (0x4F : Byte) ≠ 0x04 ∧ (0x4F : Byte) ≠ 0x24 ∧ (0x4F : Byte) ≠ 0x40 ∧ (0x4F : Byte) ≠ 0x41
    ∧ ([] : List Byte).length ≠ 1 ∧ [(0 : Byte)].length ≠ 0 := by
  refine ⟨station_takes, fun code => by cases code <;> decide, by simp [RequestCode.HasLength],
    ⟨1, by decide⟩, ⟨16, by decide⟩, ?_, ?_, ⟨12, by decide⟩, ?_, ⟨16, by decide⟩, ?_, ?_⟩
  · rintro ⟨k, h⟩; omega
  · rintro ⟨k, h⟩; omega
  · rintro ⟨k, h⟩; omega
  · rintro ⟨k, h⟩; omega
  · decide

theorem witness_IdentifyAnswersSettings : station.TakesAtOnce ∧ station.backbone.address = some 5 :=
  ⟨station_takes, rfl⟩

/-- Serves every statement whose one hypothesis is that the station takes at once: READ STATUS, DISCARD,
COMMIT and RESTART. -/
theorem witness_TakesAtOnce : station.TakesAtOnce := station_takes

/-- The least and the greatest settings that can be written. -/
theorem witness_WriteStationStoresSettings : station.TakesAtOnce
    ∧ Settings.Carried ⟨.priority, 0, 0, 0, 0, 0, 0, 0, 0, 0⟩
    ∧ Settings.Carried ⟨.arrival, 65535, 255, 255, 255, 255, 65535, 255, 65535, 255⟩
    ∧ (List.replicate 12 (0 : Byte)).length = 12 ∧ (0x02 : Byte) ≠ 0x00 ∧ (0x02 : Byte) ≠ 0x01 := by
  refine ⟨station_takes, ?_, ?_, ?_⟩
  · unfold Settings.Carried; decide
  · unfold Settings.Carried; decide
  · decide

theorem witness_WriteCaptureStoresEntry : station.TakesAtOnce
    ∧ 63 < (64 : Byte).toNat ∧ 3 < (4 : Byte).toNat ∧ 127 < (128 : Byte).toNat
    ∧ ((63 : Byte).toNat ≤ 63 ∧ (3 : Byte).toNat ≤ 3 ∧ (127 : Byte).toNat ≤ 127 ∧ 1 < (2 : Byte).toNat) :=
  ⟨station_takes, by decide⟩

theorem witness_MaskAndCalibrationStored : station.TakesAtOnce
    ∧ 3 < (4 : Byte).toNat ∧ (3 : Byte).toNat ≤ 3 ∧ 63 < (64 : Byte).toNat
    ∧ (1 : Nat) ≤ 1 ∧ (65535 : Nat) < 65536 ∧ 255 < (256 : Nat)
    ∧ (List.replicate 3 (0 : Byte)).length = 3 := ⟨station_takes, by decide⟩

/-- One record that is acceptable, one whose cell count is not, and two with one address. -/
theorem witness_LoadSweepListStoresRecords : station.TakesAtOnce
    ∧ (31 + [SweepPosition.mk true 62 4 true true].length ≤ 32)
    ∧ 32 < 32 + [SweepPosition.mk true 62 4 true true].length
    ∧ (∀ r ∈ [SweepPosition.mk true 62 4 true true], 1 ≤ r.cellCount ∧ r.cellCount ≤ 4
      ∧ (r.occupied = true → 1 ≤ r.address.toNat ∧ r.address.toNat ≤ 62))
    ∧ (∀ i j : Fin 64, segmentOf i = .a → segmentOf j = .a →
      (loadedPosition station.staged.sweep .a 31 [⟨true, 62, 4, true, true⟩] i).occupied = true →
      (loadedPosition station.staged.sweep .a 31 [⟨true, 62, 4, true, true⟩] j).occupied = true →
      (loadedPosition station.staged.sweep .a 31 [⟨true, 62, 4, true, true⟩] i).address =
        (loadedPosition station.staged.sweep .a 31 [⟨true, 62, 4, true, true⟩] j).address → i = j)
    ∧ ¬ (∀ r ∈ [SweepPosition.mk false 0 5 true true], 1 ≤ r.cellCount ∧ r.cellCount ≤ 4)
    ∧ (loadedPosition station.staged.sweep .a 0 [⟨true, 1, 1, true, true⟩, ⟨true, 1, 1, true, true⟩] 0 =
        loadedPosition station.staged.sweep .a 0 [⟨true, 1, 1, true, true⟩, ⟨true, 1, 1, true, true⟩] 1)
    ∧ 1 < (2 : Byte).toNat :=
  ⟨station_takes, by decide, by decide, by decide, by decide +kernel, by decide, by decide +kernel,
    by decide⟩

theorem station_lanes : station.LanesConsistent := by
  refine ⟨fun n => ?_, fun n => ?_, fun n => ?_, ⟨fun n => ?_, fun n m _ r h => ?_⟩, nofun⟩
  · simp [station, State.reset, Lane.cold, Lane.Consistent, Lane.bound, LaneConfig.cold,
      LaneState.uncounted]
  · simp [station, State.reset, Lane.cold]
  · simp [station, State.reset, Lane.cold]
  · simp [station, State.reset, Lane.cold]
  · simp [station, State.reset, Lane.cold] at h

theorem station_beacons : station.BeaconsFollow := by
  intro b
  simp [station, State.reset, NoticeUnit.cold, Beacon.isFlashing, State.demanded, Lane.cold]

/-- A COMMIT in flight that gives no lane a cell. -/
def committing : State := { station with mgmt := { station.mgmt with
  engine := .committing 7 ⟨.const 128 [], .const 128 false, .const 64 true⟩ } }

theorem witness_CompletionInstallsResolution : committing.mgmt.engine =
      .committing 7 ⟨.const 128 [], .const 128 false, .const 64 true⟩
    ∧ committing.LanesConsistent := by
  refine ⟨rfl, station_lanes.1, station_lanes.2.1, station_lanes.2.2.1, station_lanes.2.2.2.1, ?_⟩
  intro tag r h
  obtain ⟨-, rfl⟩ := EngineState.committing.inj h
  exact ⟨by simp, by simp⟩

/-- A lane write with every field within its range. -/
def plainWrite : LaneWrite :=
  ⟨true, 77, 65000, 1000000, 4095, 4094, 4094, 255, 8, 65535, 65535, 255, 255, 1800, 15, true⟩

theorem witness_WriteLaneStoresClamped : station.TakesAtOnce ∧ plainWrite.Carried
    ∧ plainWrite.unitWeight ≠ 0 ∧ plainWrite.group = (15 : Fin 16).val
    ∧ ({ plainWrite with capacity := 4096 } : LaneWrite).Carried
    ∧ ({ plainWrite with unitWeight := 0 } : LaneWrite).Carried
    ∧ ({ plainWrite with group := 16 } : LaneWrite).Carried
    ∧ (List.replicate 27 (0 : Byte)).length = 27
    ∧ (List.replicate 29 (0 : Byte)).length = 29 ∧ 127 < (128 : Byte).toNat := by
  refine ⟨station_takes, ?_, ?_, ?_, ?_, ?_, ?_, ?_, ?_⟩ <;>
    first
      | decide
      | (unfold LaneWrite.Carried; decide)

/-- A bound lane that a write disables, one that a write binds, one that it recounts, one it keeps. -/
theorem witness_WriteLaneActsOnLaneState : (withLane worked).TakesAtOnce ∧ plainWrite.Carried
    ∧ plainWrite.unitWeight ≠ 0 ∧ plainWrite.group < 16
    ∧ (∃ t, exec (.writeLane 7 (plainWrite.fields 17)) (withLane worked) = .next t)
    ∧ worked.bound = true
    ∧ ({ worked with
        config := { worked.config with enabled := false }, state := .unbound } : Lane).bound = false
    ∧ worked.cells ≠ [] ∧ worked.state.counting = true
    ∧ LaneState.counting .blind = false := by
  refine ⟨withLane_takes _, ?_, by decide, by decide, ⟨_, rfl⟩, by decide⟩
  unfold LaneWrite.Carried; decide

theorem witness_ReadLaneAnswersParts : station.TakesAtOnce ∧ 127 < (128 : Byte).toNat
    ∧ (127 : Byte).toNat ≤ 127 ∧ 2 < (3 : Byte).toNat := ⟨station_takes, by decide⟩

theorem witness_ZeroLaneBeginsZeroing : (withLane worked).TakesAtOnce
    ∧ ((withLane worked).lanes.get 17).state = .steady ∧ ((withLane worked).lanes.get 16).state = .unbound
    ∧ ((withLane { worked with state := .blind }).lanes.get 17).state = .blind
    ∧ 127 < (128 : Byte).toNat := by
  refine ⟨withLane_takes _, ?_⟩
  decide +kernel

/-- One pair and twelve; a bad lane as the only pair, and a bad band as the twelfth. -/
theorem witness_AcknowledgeWritesRefBands : station.TakesAtOnce
    ∧ 1 ≤ [((17 : Fin 128), Band.low)].length ∧ (List.replicate 12 ((17 : Fin 128), Band.low)).length ≤ 12
    ∧ ([] : List Byte).length % 2 = 0
    ∧ 2 * (List.replicate 11 ((17 : Fin 128), Band.low)).length + ([] : List Byte).length ≤ 22
    ∧ 127 < (128 : Byte).toNat ∧ (127 : Byte).toNat ≤ 127 ∧ 4 < (5 : Byte).toNat :=
  ⟨station_takes, by decide⟩

theorem witness_WriteGroupStoresAndAnnounces : station.TakesAtOnce ∧ 15 < (16 : Byte).toNat
    ∧ (15 : Byte).toNat ≤ 15 ∧ 7 < (8 : Byte).toNat ∧ 2 < (3 : Byte).toNat ∧ 3 < (4 : Byte).toNat :=
  ⟨station_takes, by decide⟩

theorem witness_ReadNodeAnswersAndEmpties : station.TakesAtOnce ∧ 63 < (64 : Byte).toNat :=
  ⟨station_takes, by decide⟩

/-- The station with node 5 cut off, at this probe run. -/
def cutOff (run : Nat) : State := { station with
  nodes := station.nodes.set 5 { Node.cold with state := .cutOff, probeRun := run } }

theorem witness_ReleaseNodeReturnsOrGrants : (cutOff 64).TakesAtOnce ∧ (cutOff 64).BeaconsFollow
    ∧ ((cutOff 64).nodes.get 5).state = .cutOff ∧ ((cutOff 64).nodes.get 5).probeRun = 64
    ∧ ((cutOff 63).nodes.get 5).probeRun ≠ 64 ∧ ((cutOff 64).nodes.get 6).state ≠ .cutOff
    ∧ (∃ c ∈ worked.cells, c.ref.slot = 5) ∧ 63 < (64 : Byte).toNat := by
  refine ⟨⟨rfl, rfl, rfl, rfl⟩, station_beacons, ?_⟩
  decide +kernel

/-- R131, R10: a DOUBTFUL report of lane 17 ends with its node's return, which makes the node due. -/
theorem test_release_reports :
    let t := after (.releaseNode 7 [0x05]) { cutOff 64 with
      lanes := station.lanes.set 17 { worked with state := .blind, feedDoubtful := true } }
    (t.nodes.get 5).state = .active ∧ (t.lanes.get 17).feedDoubtful = false
      ∧ (t.lanes.get 17).state = .blind ∧ t.notice.queue = [⟨.node 5, 0⟩] := by decide +kernel

/-- R157: a broadcast with the code of NOTICE OUTPUT is that request, whichever command carries it. -/
theorem test_broadcast_by_code : (after (.broadcastDiscarded 7 [0x04, 0x01]) station).notice.output =
    .held := by decide +kernel

theorem station_addresses : (withSweep polling).active.DistinctAddresses := by
  unfold Image.DistinctAddresses
  decide +kernel

/-- A node that stands at A-12 and none at A-13; a queue of seven and one of eight. -/
theorem witness_RelayIsQueued : (withSweep polling).TakesAtOnce
    ∧ (withSweep polling).active.DistinctAddresses
    ∧ 1 ≤ (12 : BitVec 6).toNat ∧ (62 : BitVec 6).toNat ≤ 62
    ∧ 1 ≤ [(0xAA : Byte)].length ∧ (List.replicate 16 (0xAA : Byte)).length ≤ 16
    ∧ (List.replicate 7 (Relay.mk 0 0 12 false [0xAA] 0 none)).length < 8
    ∧ 8 ≤ (List.replicate 8 (Relay.mk 0 0 12 false [0xAA] 0 none)).length
    ∧ 1 < (2 : Byte).toNat ∧ 62 < (63 : Byte).toNat :=
  ⟨⟨rfl, rfl, rfl, rfl⟩, station_addresses, by decide⟩

theorem witness_NoticeOutputStoresAndDrives : station.TakesAtOnce ∧ station.BeaconsFollow
    ∧ station.notice.output = .on ∧ 1 < (2 : Byte).toNat := ⟨station_takes, station_beacons, rfl, by decide⟩

/-- Aisle hold off, and in force. -/
def held (deadline : Clock) : State :=
  { station with notice := { station.notice with holdDeadline := some deadline } }

theorem witness_AisleHoldAndRelease : station.TakesAtOnce ∧ station.notice.holdDeadline = none
    ∧ (held 9).TakesAtOnce ∧ (held 9).notice.holdDeadline.isSome = true :=
  ⟨station_takes, rfl, ⟨rfl, rfl, rfl, rfl⟩, rfl⟩

theorem witness_FrameCodecRoundTrips :
    (Frame.mk 0x51 5 0 7 (List.replicate 56 0)).payload.length ≤ 56
    ∧ Frame.decode (Frame.encode ⟨0x51, 5, 0, 7, [0x01]⟩) = some ⟨0x51, 5, 0, 7, [0x01]⟩ := by
  decide +kernel

theorem witness_ManageFrameIsItsRequest : station.backbone.address = some 5
    ∧ (5 : BitVec 16) ≠ 0xFFFF ∧ (List.replicate 55 (0 : Byte)).length ≤ 55
    ∧ (List.replicate 56 (0 : Byte)).length ≤ 56 := ⟨rfl, by decide⟩

/-- Frames for all stations: one of a kind not taken, a TIME and an ENUMERATE of a wrong length. -/
theorem witness_BuReceptionIsRouted : Frame.decode [] = none
    ∧ (6 : BitVec 16) ≠ 0xFFFF ∧ station.backbone.address ≠ some 6
    ∧ station.backbone.address = some 5 ∧ (0x53 : Byte) ≠ 0x51 ∧ (0x53 : Byte) ≠ 0x55
    ∧ (0x53 : Byte) ≠ 0x56 ∧ ([] : List Byte).length ≠ 4 ∧ (be4 0).length ≠ 2
    ∧ State.reset.backbone.address = none := by decide +kernel

/-- A zeroing deadline, a replenish deadline and a hold deadline at the value the clock is set to. -/
theorem witness_TimeFrameSetsClock : (held 9).backbone.address = some 5 ∧ (5 : BitVec 16) ≠ 0xFFFF
    ∧ (0 : Clock) = (held 9).backbone.clock ∧ (9 : Clock) ≠ (held 9).backbone.clock
    ∧ (held 9).notice.holdDeadline = some 9 ∧ ¬ ((9 : Clock) - 9).toInt < 0
    ∧ ((8 : Clock) - 9).toInt < 0 := by decide +kernel

theorem witness_EnumerateGivesAddresses : State.reset.backbone.address = none
    ∧ (1 : Nat) ≤ 1 ∧ (998 : Nat) ≤ 998 ∧ (1000 : Nat) ≤ 1000
    ∧ station.backbone.address = some 5 ∧ (5 : BitVec 16).toNat ≤ 999
    ∧ 5 < (5 : BitVec 16).toNat + 1 ∧ (5 : BitVec 16).toNat + 1 ≤ 6 := by decide +kernel

theorem witness_BdPortForwards : (Frame.mk 0x53 0 9 0 []).payload.length ≤ 56
    ∧ Frame.decode [] = none ∧ station.backbone.downFifo = []
    ∧ ({ station.backbone with downFifo := [Frame.mk 0x51 6 0 1 []] } : Backbone).downFifo =
      Frame.mk 0x51 6 0 1 [] :: [] := by decide +kernel

/-- The station with a frame in its up FIFO, at this streak. -/
def forwarding (streak : Nat) : State := { station with backbone := { station.backbone with
  upFifo := [⟨0x53, 0, 9, 0, []⟩]
  streak := streak } }

theorem witness_ArbiterTakesForwardedFrame :
    (forwarding 3).backbone.upFifo = ⟨0x53, 0, 9, 0, []⟩ :: []
    ∧ (forwarding 3).backbone.streak < (forwarding 3).mgmt.settings.burst
    ∧ ((forwarding 4).mgmt.reply = none ∧ (forwarding 4).NoEndedRelay ∧ ¬ (forwarding 4).NoticeOffers
      ∧ (forwarding 4).backbone.mirror = none)
    ∧ station.backbone.upFifo = [] :=
  ⟨rfl, by decide, ⟨rfl, fun _ h => by simp [forwarding, station, State.reset, SweepEngine.cold] at h,
    fun h => h.2.1 rfl, rfl⟩, rfl⟩

/-- An ended relay of segment B waits. -/
def ended : State := { station with
  sweepB := { station.sweepB with relays := [⟨4, 9, 12, true, [0xAA], 1, some .delivered⟩] } }

/-- A DISCARD that waits behind a REPLY is taken and answered when the REPLY leaves. -/
theorem witness_ArbiterTakesLocalFrame : (busy 0).LocalTurn ∧ (forwarding 4).LocalTurn
    ∧ station.backbone.address = some 5
    ∧ (busy 0).mgmt.reply = some ⟨7, [0x15, 0x00]⟩ ∧ (busy 0).mgmt.engine ≠ .restarting
    ∧ (busy 0).mgmt.intake = []
    ∧ ((busy 2).LocalTurn ∧ (busy 2).mgmt.engine = .idle ∧ (busy 2).mgmt.intake.length = 2)
    ∧ (ended.LocalTurn ∧ ended.mgmt.reply = none
      ∧ ⟨4, 9, 12, true, [0xAA], 1, some .delivered⟩ ∈ (ended.sweep .b).relays
      ∧ ∀ (h : Segment) (q : Relay), q ∈ (ended.sweep h).relays → q.outcome ≠ none →
        (h, q) ≠ (.b, ⟨4, 9, 12, true, [0xAA], 1, some .delivered⟩) → 4 < q.acceptance)
    ∧ (station.NoEndedRelay ∧ ¬ station.NoticeOffers
      ∧ ({ station.backbone with mirror := some [0x00] } : Backbone).mirror = some [0x00]) := by
  refine ⟨⟨rfl, .inl rfl⟩, ⟨rfl, .inr (by decide)⟩, rfl, rfl, nofun, rfl, ⟨⟨rfl, .inl rfl⟩, rfl, rfl⟩,
    ⟨⟨rfl, .inl rfl⟩, rfl, List.mem_singleton.2 rfl, ?_⟩, ⟨nofun, fun h => h.2.1 rfl, rfl⟩⟩
  intro h q hq _ hne
  cases h with
  | a => cases hq
  | b => rw [List.mem_singleton.1 hq] at hne; exact absurd rfl hne

/-- R156, R159: the take of a REPLY takes the next request, and the one behind it goes on waiting. -/
theorem test_reply_take_takes_next :
    let t := after .upstreamChoice (busy 2)
    t.mgmt.reply = some ⟨8, [0x15, 0x00]⟩ ∧ t.mgmt.intake = [⟨8, false, [0x15]⟩] := by decide +kernel

/-- Lane 17 waits in the notice queue with COUNT. -/
def noticing : State := { withLane { worked with
    kinds := ⟨false, true, false, false⟩, due := true } with
  notice := { station.notice with queue := [⟨.lane 17, 0⟩], nextAdmission := 1 } }

theorem noticing_consistent : noticing.NoticesConsistent := by
  have hl : ∀ n : Fin 128, noticing.kindPending (.lane n) = (n == 17) := by decide +kernel
  have hd : ∀ n : Fin 128, noticing.isDue (.lane n) = (n == 17) := by decide +kernel
  have hn : ∀ i : Fin 64, noticing.kindPending (.node i) = false := by decide +kernel
  have hm : ∀ i : Fin 64, noticing.isDue (.node i) = false := by decide +kernel
  have hq : noticing.notice.queue = [⟨.lane 17, 0⟩] := rfl
  have hf : noticing.notice.deferred = [] := rfl
  refine ⟨fun x => ?_, fun x => ?_, fun x _ => ?_, ?_, ?_, ?_, ?_, ?_, ?_⟩
  · cases x <;> simp [hl, hd, hn, hm]
  · cases x with
    | lane n => simpa [State.queued, hq, hf, hd] using eq_comm
    | node i => simp [State.queued, hq, hf, hm]
  · simp [hf]
  · simp [hq]
  · simp [hf]
  · simp [hf]
  · simp [hq]
  · simp [hq]
  · simp [noticing]

/-- The same with a second lane due later: values that can be compared. -/
theorem witness_TakenNoticeIsSent : noticing.LocalTurn ∧ noticing.backbone.address = some 5
    ∧ noticing.mgmt.reply = none ∧ noticing.NoEndedRelay ∧ noticing.NoticeOffers
    ∧ noticing.NoticesConsistent ∧ noticing.DueComparable [.lane 17, .node 5] :=
  ⟨⟨rfl, .inl rfl⟩, rfl, rfl, nofun, ⟨rfl, nofun, rfl, nofun⟩, noticing_consistent,
    0, by decide +kernel⟩

theorem noticing_requests : noticing.RequestsConsistent :=
  ⟨nofun, nofun, fun h => absurd rfl h, nofun, List.Pairwise.nil, List.Pairwise.nil, nofun, nofun⟩

/-- Lane 17 stays due while an overflow would join as well. -/
theorem witness_KindsMakeSubjectsDue : noticing.NoticesConsistent ∧ noticing.RequestsConsistent
    ∧ (∃ t, exec (.zeroingDeadlineReached 17) noticing = .next t) ∧ noticing.DueComparable [] :=
  ⟨noticing_consistent, noticing_requests, ⟨_, rfl⟩, 0, nofun⟩

/-- Lane 17 by its end of zeroing: it becomes due at the time of the event and joins the queue. -/
theorem test_kind_makes_due :
    let t := after (.zeroingDeadlineReached 17)
      (withLane { worked with zeroDeadline := some 30000, dueSince := 4 })
    (t.lanes.get 17).due = true ∧ (t.lanes.get 17).dueSince = 30000
      ∧ t.notice.queue = [⟨.lane 17, 0⟩] ∧ t.notice.nextAdmission = 1 := by decide +kernel

/-- An acquiring lane is frozen; a steady one whose band changes is a trigger, agreeing and not; a BLIND one
from UNBOUND is a trigger whose band is not its ref band. -/
theorem witness_AgreementIsJudgedOnce : ({ worked with state := .acquiring } : Lane).state = .acquiring
    ∧ worked.replenishDeadline = none ∧ worked.state ≠ .acquiring
    ∧ ({ worked with band := .low } : Lane).band ≠ worked.band ∧ worked.state ≠ .unbound
    ∧ worked.band = worked.refBand ∧ Lane.cold.state = .unbound
    ∧ ({ Lane.cold with state := .blind } : Lane).band ≠ Lane.cold.refBand
    ∧ Lane.cold.agree = true := by decide

/-- A zeroing deadline ahead, a replenish deadline already reached, and hold deadlines of each sort. -/
theorem witness_DeadlinesAreTaken :
    ((withLane { worked with zeroDeadline := some 30000 }).lanes.get 17).zeroDeadline = some 30000
    ∧ ((withLane { worked with replenishDeadline := some 0 }).lanes.get 17).replenishDeadline = some 0
    ∧ (held 0).notice.holdDeadline = some 0 ∧ (held 9).notice.holdDeadline = some 9 := by decide +kernel

theorem witness_SpacingAndBeaconRhythm :
    ({ station.notice with spacing := some 20 } : NoticeUnit).spacing = some 20
    ∧ (station.notice.beacons.set 1 (.flashing true 500)).get 1 = .flashing true 500
    ∧ (500 : Nat) ≤ 500 := by decide +kernel

theorem witness_AisleKeyDebounces : true ≠ station.notice.akeyLow
    ∧ (let u : NoticeUnit := { station.notice with akeyLow := true, debounce := some 0 };
      u.debounce = some 0 ∧ u.akeyLow = true ∧ u.key = .idle)
    ∧ (let u : NoticeUnit := { station.notice with debounce := some 20, key := .long };
      u.debounce = some 20 ∧ u.akeyLow = false ∧ u.key = .long)
    ∧ (let u : NoticeUnit := { station.notice with debounce := some 20, key := .pressed 3999 };
      u.debounce = some 20 ∧ u.akeyLow = false ∧ u.key = .pressed 3999) := by decide

theorem witness_LongPressTogglesHold :
    (let s : State := { station with notice := { station.notice with key := .pressed 4000 } };
      s.notice.key = .pressed 4000 ∧ s.notice.holdDeadline = none)
    ∧ (let s : State := { held 9 with notice := { (held 9).notice with key := .pressed 0 } };
      s.notice.key = .pressed 0 ∧ s.notice.holdDeadline.isSome = true) := by
  exact ⟨⟨rfl, rfl⟩, rfl, rfl⟩

theorem witness_SweepTimerStartsOrOwes : (station.sweep .a).visit = none
    ∧ (station.sweep .a).timerExpired = true ∧ (quiet.sweep .a).visit = none
    ∧ (quiet.sweep .a).timerExpired = false
    ∧ ((withSweep polling).sweep .a).visit.isSome = true
    ∧ ((withSweep polling).sweep .a).timerExpired = false
    ∧ ((withSweep { polling with timerExpired := true }).sweep .a).visit.isSome = true := by
  exact ⟨rfl, rfl, rfl, rfl, rfl, rfl, rfl⟩

/-- The visit of node A-12, at a stage. -/
def visiting (stage : Stage) (stray : Bool) : State := withSweep { polling with
  visit := some ⟨5, 12, 1, true, false, none, pollFrame 12, stage⟩
  stray := stray }

/-- The relay phase of that visit, of a slot that a COMMIT changed or did not. -/
def relaying (stage : Stage) (changed : Bool) : State := withSweep { polling with
  visit := some ⟨5, 12, 1, true, changed, some 4, relayFrame 12 [0xAA], stage⟩
  relays := [⟨4, 9, 12, true, [0xAA], 2, none⟩] }

theorem witness_ShelfLineEvents :
    ((visiting .sending false).sweep .a).visit.map Visit.stage = some .sending
    ∧ ((visiting (.window 3 3) false).sweep .a).visit.map Visit.stage = some (.window 3 3)
    ∧ ((visiting (.window 3 3) false).sweep .a).stray = false
    ∧ (station.sweep .a).visit = none
    ∧ ((visiting .waiting true).sweep .a).visit.map Visit.stage = some .waiting
    ∧ ((visiting .waiting true).sweep .a).stray = true
    ∧ ((withSweep { SweepEngine.cold with stray := true }).sweep .a).stray = true
    ∧ ((visiting (.window 3 3) true).sweep .a).stray = true
    ∧ ((visiting .receiving false).sweep .a).visit.map Visit.stage = some .receiving := by
  exact ⟨rfl, rfl, rfl, rfl, rfl, rfl, rfl, rfl, rfl⟩

/-- A node at a miss run of 9, whose next miss is the tenth, and one at 8; a visit in its relay phase, and
one of a changed slot. -/
theorem witness_WindowExpiryIsMissed :
    ((visiting (.window 0 3) false).sweep .a).visit =
      some ⟨5, 12, 1, true, false, none, pollFrame 12, .window 0 3⟩
    ∧ segmentOf 5 = .a
    ∧ (Node.judge 10 true .missed { Node.cold with missRun := 9 }).state = .absent
    ∧ (Node.judge 10 true .missed { Node.cold with missRun := 8 }).state = .active
    ∧ ((relaying (.window 3 3) false).sweep .a).visit =
      some ⟨5, 12, 1, true, false, some 4, relayFrame 12 [0xAA], .window 3 3⟩
    ∧ ((relaying (.window 3 3) false).sweep .a).relays = [] ++ [⟨4, 9, 12, true, [0xAA], 2, none⟩] ++ []
    ∧ ((relaying (.window 3 3) true).sweep .a).visit.map Visit.changed = some true := by
  refine ⟨rfl, ?_⟩
  decide +kernel

/-- A reading that is new and one that is stale, of a node that stays usable, with the key pressed; an open
relay for the node and none. -/
theorem witness_GoodReadingIsHandedOn :
    ((visiting .receiving false).sweep .a).visit =
      some ⟨5, 12, 1, true, false, none, pollFrame 12, .receiving⟩
    ∧ [((500 : BitVec 24), CellStatus.valid)].length = 1 ∧ segmentOf 5 = .a
    ∧ (visiting .receiving false).sequences.get 5 ≠ some 1
    ∧ (station.sequences.set 5 (some 1)).get 5 = some 1
    ∧ (Node.judge 10 true .good .cold).state ≠ .cutOff
    ∧ (Node.judge 10 true .good { Node.cold with state := .cutOff }).state = .cutOff
    ∧ ((visiting .receiving false).sweep .a).relays = []
    ∧ (Relay.mk 4 9 12 true [0xAA] 1 none).outcome = none
    ∧ (1 : Byte).getLsbD 0 = true ∧ worked.bound = true ∧ worked.config.replenish ≠ 0
    ∧ worked.cells.any (fun c => c.ref.slot == 5) = true ∧ worked.replenishDeadline = none := by
  refine ⟨rfl, ?_⟩
  decide +kernel

/-- R71: the deadline is now + 300 s, and a later one is kept. -/
theorem test_bay_key :
    let at_ (d : Option Clock) := ((after (.readingReceived .a (reading 1 1 500)) { withSweep polling with
      lanes := station.lanes.set 17 { worked with beaconLit := true, replenishDeadline := d } }).lanes.get
        17)
    (at_ none).replenishDeadline = some 300000 ∧ (at_ (some 5)).replenishDeadline = some 300000
      ∧ (at_ (some 300001)).replenishDeadline = some 300001 ∧ (at_ none).beaconLit = false := by
  decide +kernel

/-- R96, R112: the bay key darkens lane 17, which alone demands beacon 0, and the capture that follows
raises lane 18, without a replenish time; the beacon flashes afresh from its high phase. -/
theorem test_beacon_restarts :
    (after (.readingReceived .a (reading 1 1 500)) { withSweep polling with
      lanes := (station.lanes.set 17 { worked with
          cells := [⟨⟨5, 1⟩, false, none⟩], alertPending := true, beaconLit := true }).set 18
        { worked with
          cells := [⟨⟨5, 0⟩, false, none⟩], state := .moving, window := [63, 63, 63]
          config := { worked.config with tare := 0, replenish := 0 } }
      notice := { station.notice with
        groups := station.notice.groups.set 2 ⟨true, 5, .both, 0⟩
        beacons := station.notice.beacons.set 0 (.flashing false 123) } }).notice.beacons.get 0 =
    .flashing true 0 := by decide +kernel

/-- A reception too short, and one with a wrong CRC-8; one that fails each later check alone (a wrong type,
address, count, length and status) with a right CRC-8; a node at a score whose next fault cuts it off. -/
theorem witness_FailedReadingDeliversNothing :
    ((visiting .receiving false).sweep .a).visit =
      some ⟨5, 12, 1, true, false, none, pollFrame 12, .receiving⟩
    ∧ segmentOf 5 = .a ∧ [(0x0C : Byte), 0x22].length < 3
    ∧ [(0x0C : Byte), 0x22, 0x00].getLast? ≠ some (crc8 [(0x0C : Byte), 0x22, 0x00].dropLast)
    ∧ (∀ body ∈ [bytes [0x0C, 0x24, 1, 0, 1, 0, 0, 0, 0], bytes [0x0D, 0x22, 1, 0, 1, 0, 0, 0, 0],
        bytes [0x0C, 0x22, 1, 0, 2, 0, 0, 0, 0], bytes [0x0C, 0x22, 1, 0, 1, 0, 0, 0],
        bytes [0x0C, 0x22, 1, 0, 1, 0, 0, 0, 3]],
      let b := (shelfFrame body).take 32
      ¬ (b.length < 3 ∨ b.getLast? ≠ some (crc8 b.dropLast))
        ∧ (b.getD 1 0 ≠ 0x22 ∨ b.getD 0 0 ≠ (12 : BitVec 6).setWidth 8 ∨ (b.getD 4 0).toNat ≠ 1
          ∨ b.length ≠ 6 + 4 * 1 ∨ ∃ k < 1, 2 < (b.getD (8 + 4 * k) 0).toNat))
    ∧ (Node.judge 10 true .corrupt { Node.cold with state := .doubtful, score := 248 }).state = .cutOff
    ∧ (Node.judge 10 true .corrupt { Node.cold with state := .doubtful, score := 247 }).state =
      .doubtful := by
  refine ⟨rfl, ?_⟩
  decide +kernel

/-- The relay in delivery, at its second failed attempt and its first; an answer too short, and one that
fails each check of R117 alone; a visit of a changed slot. -/
theorem witness_RelayAnswerEndsRelay :
    ((relaying .receiving false).sweep .a).visit =
      some ⟨5, 12, 1, true, false, some 4, relayFrame 12 [0xAA], .receiving⟩
    ∧ ((relaying .receiving false).sweep .a).relays = [] ++ [⟨4, 9, 12, true, [0xAA], 2, none⟩] ++ []
    ∧ segmentOf 5 = .a ∧ (Relay.mk 4 9 12 true [0xAA] 1 none).failed < 2
    ∧ 2 ≤ (Relay.mk 4 9 12 true [0xAA] 2 none).failed ∧ [(0x0C : Byte)].length < 3
    ∧ (∀ body ∈ [bytes [0x0C, 0x22, 1], bytes [0x0D, 0x24, 1], bytes [0x0C, 0x24, 1, 0],
        bytes [0x0C, 0x24, 3]],
      let b := (shelfFrame body).take 32
      ¬ (b.length < 3 ∨ b.getLast? ≠ some (crc8 b.dropLast))
        ∧ (b.getD 1 0 ≠ 0x24 ∨ b.getD 0 0 ≠ (12 : BitVec 6).setWidth 8 ∨ b.length ≠ 4
          ∨ (b.getD 2 0 ≠ 0x01 ∧ b.getD 2 0 ≠ 0x02)))
    ∧ ((relaying .receiving true).sweep .a).visit.map (fun v => (v.changed, v.relay)) =
      some (true, some 4) := by
  refine ⟨rfl, ?_⟩
  decide +kernel

/-- Lanes in each case: UNBOUND, BLIND with and without a lost node, a window that this sample does not
fill, one that it fills settled and one unsettled, zeroing, fit, unfit below the limit and at it. -/
theorem witness_LaneTakesSample : Lane.cold.state = .unbound
    ∧ ({ worked with state := .blind } : Lane).state = .blind
    ∧ (station.nodes.get 5).state = .active ∧ ((cutOff 0).nodes.get 5).state = .cutOff
    ∧ worked.state.counting = true
    ∧ (([277892, 277880] : List Int) ++ [277910]).length < worked.config.settleCount
    ∧ ((worked.window ++ [277894]).drop ((worked.window ++ [277894]).length - 4)).length = 4
    ∧ (∀ x ∈ (worked.window ++ [277894]).drop 1, ∀ y ∈ (worked.window ++ [277894]).drop 1,
        x - y ≤ (worked.config.settleBand : Int))
    ∧ ¬ (∀ x ∈ (worked.window ++ [262150]).drop 1, ∀ y ∈ (worked.window ++ [262150]).drop 1,
        x - y ≤ (worked.config.settleBand : Int))
    ∧ ({ worked with zeroDeadline := some 9 } : Lane).zeroDeadline.isSome = true
    ∧ (estimate worked.config 277894).fit = true ∧ (estimate worked.config 231400).fit = false
    ∧ min 255 (18 + 1) < worked.config.unfitLimit ∧ worked.config.unfitLimit ≤ min 255 (19 + 1) := by
  decide +kernel

/-- Scores 247 and 248, probe runs 62, 63 and 64, both recovery modes. -/
theorem witness_NodeTakesOutcome : Node.cold.state ≠ .cutOff ∧ 247 + 8 ≤ 255 ∧ 255 < 248 + 8
    ∧ ({ Node.cold with state := .cutOff, probeRun := 62 } : Node).probeRun < 63
    ∧ ({ Node.cold with state := .cutOff, probeRun := 63 } : Node).recovery = .auto
    ∧ ({ Node.cold with state := .cutOff, recovery := .release } : Node).releaseGranted = false
    ∧ 64 ≤ ({ Node.cold with state := .cutOff, probeRun := 64 } : Node).probeRun := by decide

theorem witness_RoundingAndConversion : 0 < 1 ∧ 2 * ((-2 : Int) - roundDiv (-2) 4 * 4).natAbs = 4 := by
  decide

/-- Net weights 0, 1, 4,095 units and 4,096 units at a unit weight of 1 g. -/
theorem witness_EstimateIsFitWithinTolerance : 1 ≤ 1 ∧ (0 : Int) - (0 : Nat) ≤ 0
    ∧ 0 < (1 : Int) - (0 : Nat) ∧ roundDiv 4095 1 ≤ 4095 ∧ 4095 < roundDiv 4096 1 := by decide

/-- A fall, a rise with a band that qualifies, and one without (Table 4-1: 3, 7 and 1). -/
theorem witness_BandFollowsCountWithHysteresis : LaneConfig.cold.criticalMark ≤ LaneConfig.cold.lowMark
    ∧ rawBand .cold 5 = .critical ∧ rawBand .cold 3 = .critical ∧ 1 + 2 ≤ 3 ∧ ¬ 1 + 2 ≤ 1 := by decide

theorem station_ranges : station.InRange := by
  refine ⟨?_, ?_, ?_, ?_, ?_, ?_, ?_, ?_, ?_, ?_, nofun, nofun⟩
  · refine ⟨fun a h => ?_, ?_⟩
    · cases h; decide
    · decide
  · exact ⟨by unfold Settings.InRange; decide, by decide, nofun⟩
  · decide
  · simp [station, State.reset, NoticeUnit.cold]
  · refine ⟨?_, ?_, ?_⟩ <;> simp [station, State.reset, Image.cold, Image.DistinctAddresses]
  · refine ⟨?_, ?_, ?_⟩ <;> simp [station, State.reset, Image.cold, Image.DistinctAddresses]
  · intro n
    simp [station, State.reset, Lane.cold, Lane.InRange, LaneConfig.InRange, LaneConfig.cold]
  · intro i
    simp [station, State.reset, Node.cold, Node.InRange]
  · exact ⟨by decide, nofun⟩
  · exact ⟨by decide, nofun⟩

/-- Serves the five statements of what a step keeps; with nothing commanded the station's step is the
start of segment A's first sweep. -/
theorem witness_StepKeeps : station.InRange ∧ station.LanesConsistent ∧ station.BeaconsFollow
    ∧ noticing.NoticesConsistent ∧ quiet.RequestsConsistent
    ∧ (∃ t, step station = .next t) ∧ (∃ t, step noticing = .next t) ∧ ∃ t, step quiet = .next t := by
  refine ⟨station_ranges, station_lanes, station_beacons, noticing_consistent, ?_, ?_⟩
  · refine ⟨nofun, nofun, fun h => absurd rfl h, nofun, ?_⟩
    exact ⟨List.Pairwise.nil, List.Pairwise.nil, nofun, nofun⟩
  · exact ⟨⟨_, rfl⟩, ⟨_, rfl⟩, ⟨_, rfl⟩⟩

end Sys2Proof.Tests
end

section
/-! What a lane record does with a sample (chapter 1, chapter 3), case by case. -/

namespace Sys2Proof.Machine

/-! ### The settle test -/

theorem foldl_max_le_iff (c : Int) (xs : List Int) (a : Int) :
    xs.foldl max a ≤ c ↔ ∀ x ∈ a :: xs, x ≤ c := by
  induction xs generalizing a with
  | nil => simp
  | cons y ys ih => simp [ih, and_assoc]

theorem le_foldl_min_iff (c : Int) (xs : List Int) (a : Int) :
    c ≤ xs.foldl min a ↔ ∀ x ∈ a :: xs, c ≤ x := by
  induction xs generalizing a with
  | nil => simp
  | cons y ys ih => simp [ih, and_assoc]

/-- The spread of R40 lies within a band exactly where every two samples do. -/
theorem spread_le_iff (w : List Int) (b : Nat) :
    spread w ≤ b ↔ ∀ x ∈ w, ∀ y ∈ w, x - y ≤ b := by
  cases w with
  | nil => simp [spread]
  | cons a xs =>
    calc xs.foldl max a - xs.foldl min a ≤ b
        ↔ xs.foldl max a ≤ b + xs.foldl min a := by omega
      _ ↔ ∀ x ∈ a :: xs, x - b ≤ xs.foldl min a := by
        rw [foldl_max_le_iff]
        exact forall₂_congr fun x _ => by omega
      _ ↔ ∀ x ∈ a :: xs, ∀ y ∈ a :: xs, x - y ≤ b := by
        refine forall₂_congr fun x _ => ?_
        rw [le_foldl_min_iff]
        exact forall₂_congr fun y _ => by omega

/-! ### Feeding nodes, zeroing and its end -/

theorem NodeState.lost_iff (x : NodeState) : x.lost = true ↔ x = .cutOff ∨ x = .absent := by
  cases x <;> simp [NodeState.lost]

variable (l : Lane) (nodes : Table Node 64)

theorem Lane.feedLost_iff : l.feedLost nodes = true ↔
    ∃ c ∈ l.cells, (nodes.get c.ref.slot).state = .cutOff ∨ (nodes.get c.ref.slot).state = .absent := by
  simp [Lane.feedLost, NodeState.lost_iff]

theorem Lane.feedLost_eq_false : l.feedLost nodes = false ↔
    ¬ ∃ c ∈ l.cells, (nodes.get c.ref.slot).state = .cutOff ∨ (nodes.get c.ref.slot).state = .absent := by
  rw [← Lane.feedLost_iff, Bool.not_eq_true]

/-- Ending zeroing where it is in progress, as one update of the record (R16). -/
theorem Lane.cancelZeroing_record : l.cancelZeroing = { l with
    zeroDeadline := none
    zeroResult := if l.zeroDeadline.isSome = true then some .cancelled else l.zeroResult
    kinds := { l.kinds with zero := l.kinds.zero || l.zeroDeadline.isSome } } := by
  cases h : l.zeroDeadline with
  | none =>
    rw [l.cancelZeroing_of_none h]
    rcases l with ⟨_⟩
    subst h
    simp
  | some d => simp [l.cancelZeroing_of_some, h]

theorem LaneState.disturbed_eq (x : LaneState) : x.disturbed = if x = .steady then .moving else x := by
  cases x <;> rfl

/-- The tare that zeroing stores is the settled weight exactly where that is a tare of Table 1-1. -/
theorem clamped_tare_eq_iff (w : Int) :
    ((min w.toNat Config.maxTare : Nat) : Int) = w ↔ 0 ≤ w ∧ w ≤ 1000000 := by
  simp only [Config.maxTare]
  omega

/-! ### A settled result -/

variable (w sum : Int)

theorem Lane.settledResult_of_zeroing (h : l.zeroDeadline.isSome = true) : l.settledResult w = { l with
    settled := some w
    config := { l.config with tare := min w.toNat 1000000 }
    zeroDeadline := none
    zeroResult := some (if 0 ≤ w ∧ w ≤ 1000000 then .done else .clamped)
    count := 0
    unfitRun := 0
    overfill := false
    state := .steady
    band := .empty
    refBand := .empty
    agree := true
    alertPending := false
    beaconLit := false
    kinds := { l.kinds with zero := true, band := false } } := by
  have hz : l.zeroing = true := h
  simp only [Lane.settledResult, hz, if_true, Lane.zeroWith, Lane.endZeroing, clamped_tare_eq_iff]
  rfl

theorem Lane.settledResult_of_fit (h : l.zeroDeadline = none) (hf : (estimate l.config w).fit = true) :
    l.settledResult w = { l with
      settled := some w
      count := (estimate l.config w).count
      unfitRun := 0
      state := .steady
      overfill := decide (l.config.capacity < (estimate l.config w).count)
      kinds := { l.kinds with
        count := l.kinds.count || ((estimate l.config w).count != l.count && l.config.reportCounts) }
      band := nextBand l.config l.band (estimate l.config w).count } := by
  simp [Lane.settledResult, Lane.zeroing, h, Lane.countWith, hf, Lane.fitResult]

theorem Lane.settledResult_of_unfit (h : l.zeroDeadline = none)
    (hf : (estimate l.config w).fit = false) (hr : min 255 (l.unfitRun + 1) < l.config.unfitLimit) :
    l.settledResult w = { l with
      settled := some w
      unfitRun := min 255 (l.unfitRun + 1)
      state := if l.state = .steady then .moving else l.state } := by
  have hr' : ¬ l.config.unfitLimit ≤ min Config.runCeiling (l.unfitRun + 1) := Nat.not_le.2 hr
  simp only [Lane.settledResult, Lane.zeroing, h, Lane.countWith, hf, Lane.unfitResult, hr', if_false,
    LaneState.disturbed_eq]
  rfl

theorem Lane.settledResult_of_suspect (h : l.zeroDeadline = none)
    (hf : (estimate l.config w).fit = false) (hr : l.config.unfitLimit ≤ min 255 (l.unfitRun + 1)) :
    l.settledResult w = { l with
      settled := some w
      unfitRun := min 255 (l.unfitRun + 1)
      state := .suspect
      band := .unknown } := by
  have hr' : l.config.unfitLimit ≤ min Config.runCeiling (l.unfitRun + 1) := hr
  simp only [Lane.settledResult, Lane.zeroing, h, Lane.countWith, hf, Lane.unfitResult, hr', if_true]
  rfl

/-! ### A sample -/

/-- The window with a sample joined: the newest N samples (R38, R39). -/
def Lane.joined (sum : Int) (l : Lane) : List Int :=
  (l.window ++ [sum]).drop ((l.window ++ [sum]).length - l.config.settleCount)

theorem Lane.joinWindow_eq : l.joinWindow sum =
    if (l.joined sum).length < l.config.settleCount then { l with window := l.joined sum }
    else if spread (l.joined sum) ≤ l.config.settleBand then
      ({ l with window := l.joined sum } : Lane).settledResult
        (roundDiv (l.joined sum).sum l.config.settleCount)
    else { l with
      window := l.joined sum, state := if l.state = .steady then .moving else l.state } := by
  rw [← LaneState.disturbed_eq]
  rfl

theorem Lane.joinWindow_of_short (h : (l.joined sum).length < l.config.settleCount) :
    l.joinWindow sum = { l with window := l.joined sum } := by
  rw [Lane.joinWindow_eq, if_pos h]

/-- A full window that is not within the settle band disturbs the lane (R44). -/
theorem Lane.joinWindow_of_unsettled (h : l.config.settleCount ≤ (l.joined sum).length)
    (hs : ¬ spread (l.joined sum) ≤ l.config.settleBand) : l.joinWindow sum = { l with
      window := l.joined sum, state := if l.state = .steady then .moving else l.state } := by
  rw [Lane.joinWindow_eq, if_neg (Nat.not_lt.2 h), if_neg hs]

theorem Lane.joinWindow_of_settled (h : l.config.settleCount ≤ (l.joined sum).length)
    (hs : spread (l.joined sum) ≤ l.config.settleBand) : l.joinWindow sum =
      ({ l with window := l.joined sum } : Lane).settledResult
        (roundDiv (l.joined sum).sum l.config.settleCount) := by
  rw [Lane.joinWindow_eq, if_neg (Nat.not_lt.2 h), if_pos hs]

theorem Lane.takeSample_of_unbound {valid : Bool} (h : l.state = .unbound) :
    l.takeSample nodes sum valid = l := by
  simp [Lane.takeSample, h]

theorem Lane.takeSample_of_blind {valid : Bool} (h : l.state = .blind) :
    l.takeSample nodes sum valid =
      if valid && !l.feedLost nodes then { l.enterAcquiring with window := [sum] } else l := by
  simp [Lane.takeSample, h]

theorem Lane.takeSample_of_counting {valid : Bool} (h : l.state.counting = true) :
    l.takeSample nodes sum valid = if valid then l.joinWindow sum else l.enterBlind := by
  cases hs : l.state <;> simp_all [Lane.takeSample, LaneState.counting]

/-- An entry to BLIND, as one update of the record (R7, R16). -/
theorem Lane.enterBlind_record : l.enterBlind = { l with
    state := .blind
    window := []
    cells := l.cells.map (fun c => { c with fresh := false })
    band := .unknown
    zeroDeadline := none
    zeroResult := if l.zeroDeadline.isSome = true then some .cancelled else l.zeroResult
    kinds := { l.kinds with zero := l.kinds.zero || l.zeroDeadline.isSome } } := by
  rw [Lane.enterBlind, Lane.cancelZeroing_record]
  rfl

/-- Settles O52: the lane's state decides who takes the sample; of a good one on a counting lane the window
decides, and of a settled result zeroing and the verdict of the estimate. -/
theorem laneTakesSample : Obligations.LaneTakesSample := by
  intro l nodes sum valid
  have join (h : l.state.counting = true) (hv : valid = true) :
      l.takeSample nodes sum valid = l.joinWindow sum := by
    rw [l.takeSample_of_counting nodes sum h, if_pos hv]
  refine ⟨fun h => l.takeSample_of_unbound nodes sum h, fun h hv => ?_, fun h hv hn => ?_,
    fun h hv => ?_, fun h hv hw => (join h hv).trans (l.joinWindow_of_short sum hw),
    fun h hv hw hs => (join h hv).trans
      (l.joinWindow_of_unsettled sum hw.ge (mt (spread_le_iff _ _).1 hs)), fun h hv hw hs => ?_⟩
  · rw [l.takeSample_of_blind nodes sum h, if_neg]
    intro hb
    obtain ⟨hgood, hfed⟩ : valid = true ∧ l.feedLost nodes = false := by simpa using hb
    rw [Lane.feedLost_eq_false] at hfed
    exact hv.elim (by simp [hgood]) hfed
  · have hfed := (l.feedLost_eq_false nodes).2 hn
    rw [l.takeSample_of_blind nodes sum h, hv, hfed]
    rfl
  · rw [l.takeSample_of_counting nodes sum h, hv, ← l.enterBlind_record]
    rfl
  · have settle := (join h hv).trans
      (l.joinWindow_of_settled sum hw.ge ((spread_le_iff _ _).2 hs))
    exact ⟨fun hz => settle.trans (Lane.settledResult_of_zeroing _ _ hz),
      fun hz hf => settle.trans (Lane.settledResult_of_fit _ _ hz hf),
      fun hz hf hr => settle.trans (Lane.settledResult_of_unfit _ _ hz hf hr),
      fun hz hf hr => settle.trans (Lane.settledResult_of_suspect _ _ hz hf hr)⟩

end Sys2Proof.Machine
end

section
/-! Lane records stay consistent: what `Lane.Consistent`, feed doubtful and agreement say of one record, and
what each event of a lane keeps of it. -/

namespace Sys2Proof.Machine

/-! ### The parts of a consistent record -/

/-- What `Lane.Consistent` says beside R2: all of it is kept also by the stages of an event at which the
lane's configuration or cells have changed and its state has not yet followed. -/
structure Lane.Coherent (l : Lane) : Prop where
  band_unknown : l.band = .unknown ↔ l.state.uncounted = true
  window_empty : l.state = .unbound ∨ l.state = .blind → l.window = []
  zeroing_counting : l.zeroDeadline.isSome = true → l.state.counting = true
  lit_pending : l.beaconLit = true → l.alertPending = true
  band_pending : l.kinds.band = true → l.alertPending = true ∧ l.alertAnnounced = false
  raise_time : l.alertPending = true → l.raiseTime.isSome = true
  unbound_clear : l.state = .unbound → l.alertPending = false ∧ l.replenishDeadline = none
    ∧ l.unfitRun = 0 ∧ l.overfill = false

/-- UNBOUND exactly when not bound (R2). -/
def Lane.BoundByState (l : Lane) : Prop := l.bound = true ↔ l.state ≠ .unbound

/-- Feed doubtful is yes exactly while a feeding node is DOUBTFUL (R10). -/
def Lane.FeedReported (nodes : Table Node 64) (l : Lane) : Prop :=
  l.feedDoubtful = true ↔ ∃ r ∈ l.refs, (nodes.get r.slot).state = .doubtful

/-- A lane that is not UNBOUND and not frozen agrees exactly while its band is its ref band (R66, R69). -/
def Lane.Agrees (hold : Bool) (l : Lane) : Prop :=
  l.state ≠ .unbound → l.frozen hold = false → (l.agree = true ↔ l.band = l.refBand)

/-- What `State.LanesConsistent` says of one lane record. -/
structure Lane.Sound (nodes : Table Node 64) (hold : Bool) (l : Lane) : Prop where
  bound : l.BoundByState
  coherent : l.Coherent
  feed : l.FeedReported nodes
  agrees : l.Agrees hold

variable {l k m : Lane} {nodes nodes' : Table Node 64} {hold hold' : Bool}
  {groups : Table Group 16} {now : Clock}

theorem Lane.consistent_iff : l.Consistent ↔ l.BoundByState ∧ l.Coherent :=
  ⟨fun ⟨h1, h2, h3, h4, h5, h6, h7, h8⟩ => ⟨h1, ⟨h2, h3, h4, h5, h6, h7, h8⟩⟩,
    fun ⟨h1, ⟨h2, h3, h4, h5, h6, h7, h8⟩⟩ => ⟨h1, h2, h3, h4, h5, h6, h7, h8⟩⟩

theorem Lane.feedReported_iff : l.FeedReported nodes ↔
    (l.feedDoubtful = true ↔ ∃ c ∈ l.cells, (nodes.get c.ref.slot).state = .doubtful) := by
  simp [Lane.FeedReported, Lane.refs]

theorem Lane.frozen_eq_false : l.frozen hold = false ↔
    l.replenishDeadline = none ∧ hold = false ∧ l.state ≠ .acquiring := by
  simp [Lane.frozen, and_assoc]

theorem Lane.bound_eq_refs (l : Lane) : l.bound = (l.config.enabled && !l.refs.isEmpty) := by
  simp [Lane.bound, Lane.refs]

theorem LaneState.uncounted_iff (x : LaneState) :
    x.uncounted = true ↔ x ≠ .steady ∧ x ≠ .moving := by
  cases x <;> simp [LaneState.uncounted]

/-- A lane is judged at a freeze end exactly in the states that are neither UNBOUND nor ACQUIRING. -/
theorem LaneState.judged_iff (x : LaneState) : x.judged = true ↔ x ≠ .unbound ∧ x ≠ .acquiring := by
  cases x <;> simp [LaneState.judged]

/-- The only pair of states that a disturbance joins is STEADY and MOVING, which hold the same. -/
@[simp] theorem LaneState.disturbed_uncounted (x : LaneState) : x.disturbed.uncounted = x.uncounted := by
  cases x <;> rfl
@[simp] theorem LaneState.disturbed_counting (x : LaneState) : x.disturbed.counting = x.counting := by
  cases x <;> rfl
@[simp] theorem LaneState.disturbed_unbound (x : LaneState) : x.disturbed = .unbound ↔ x = .unbound := by
  cases x <;> simp [LaneState.disturbed]
@[simp] theorem LaneState.disturbed_blind (x : LaneState) : x.disturbed = .blind ↔ x = .blind := by
  cases x <;> simp [LaneState.disturbed]
@[simp] theorem LaneState.disturbed_acquiring (x : LaneState) :
    x.disturbed = .acquiring ↔ x = .acquiring := by
  cases x <;> simp [LaneState.disturbed]

theorem LaneState.counting_ne (x : LaneState) (h : x.counting = true) : x ≠ .unbound ∧ x ≠ .blind := by
  cases x <;> simp_all [LaneState.counting]

/-- No count has the band UNKNOWN (R60, R61). -/
theorem rawBand_ne_unknown (c : LaneConfig) (n : Nat) : rawBand c n ≠ .unknown := by
  unfold rawBand
  split_ifs <;> simp

theorem nextBand_ne_unknown (c : LaneConfig) (b : Band) (n : Nat) : nextBand c b n ≠ .unknown := by
  unfold nextBand
  split_ifs with hb
  · exact rawBand_ne_unknown c n
  · unfold hysteresisBand
    split_ifs
    · exact rawBand_ne_unknown c n
    · cases hf : [Band.stocked, .low, .critical].find? (Band.qualifies c b n) with
      | none => exact hb
      | some x =>
        have hx := List.mem_of_find?_eq_some hf
        rintro rfl
        simp at hx

/-! ### What a stage of an event keeps of a coherent record -/

namespace Lane.Coherent

theorem withConfig (h : l.Coherent) (c : LaneConfig) : ({ l with config := c } : Lane).Coherent :=
  { h with }

theorem clearWindow (h : l.Coherent) : l.clearWindow.Coherent := { h with window_empty := fun _ => rfl }

theorem cancelZeroing (h : l.Coherent) : l.cancelZeroing.Coherent := by
  rw [Lane.cancelZeroing_record]
  exact { h with zeroing_counting := nofun }

theorem enterBlind (h : l.Coherent) : l.enterBlind.Coherent := by
  rw [Lane.enterBlind_record]
  exact { h with
    band_unknown := by simp [LaneState.uncounted]
    window_empty := fun _ => rfl
    zeroing_counting := nofun
    unbound_clear := nofun }

theorem enterAcquiring (h : l.Coherent) : l.enterAcquiring.Coherent :=
  { h.clearWindow with
    band_unknown := by simp [Lane.enterAcquiring, LaneState.uncounted]
    window_empty := fun _ => rfl
    zeroing_counting := fun _ => rfl
    unbound_clear := nofun }

theorem enterUnbound (h : l.Coherent) : l.enterUnbound.Coherent :=
  { h.clearWindow.cancelZeroing with
    band_unknown := by simp [Lane.enterUnbound, LaneState.uncounted]
    window_empty := fun _ => by simp [Lane.enterUnbound, Lane.cancelZeroing_record]
    zeroing_counting := by simp [Lane.enterUnbound]
    lit_pending := nofun
    band_pending := nofun
    raise_time := nofun
    unbound_clear := fun _ => ⟨rfl, rfl, rfl, rfl⟩ }

theorem enterBound (h : l.Coherent) : (l.enterBound nodes).Coherent := by
  unfold Lane.enterBound
  split
  · exact h.enterBlind
  · exact h.enterAcquiring

theorem setDoubt (h : l.Coherent) : (l.setDoubt nodes).Coherent := { h with }

end Lane.Coherent

/-! ### Cells, feed and the bound states of a record -/

/-- The lane keeps its cells, what it is fed by, and whether it is UNBOUND. -/
structure Lane.SameFeed (l k : Lane) : Prop where
  refs : k.refs = l.refs
  enabled : k.config.enabled = l.config.enabled
  doubt : k.feedDoubtful = l.feedDoubtful
  unbound : k.state = .unbound ↔ l.state = .unbound

namespace Lane.SameFeed

theorem refl (l : Lane) : l.SameFeed l := ⟨rfl, rfl, rfl, Iff.rfl⟩

theorem trans (h : l.SameFeed k) (g : k.SameFeed m) : l.SameFeed m :=
  ⟨g.refs.trans h.refs, g.enabled.trans h.enabled, g.doubt.trans h.doubt, g.unbound.trans h.unbound⟩

theorem bound_eq (h : l.SameFeed k) : k.bound = l.bound := by
  rw [Lane.bound_eq_refs, Lane.bound_eq_refs, h.refs, h.enabled]

theorem boundByState (h : l.SameFeed k) (hl : l.BoundByState) : k.BoundByState := by
  unfold Lane.BoundByState
  rw [h.bound_eq, ne_eq, h.unbound]
  exact hl

theorem feedReported (h : l.SameFeed k) (hl : l.FeedReported nodes) : k.FeedReported nodes := by
  unfold Lane.FeedReported
  rw [h.refs, h.doubt]
  exact hl

end Lane.SameFeed

theorem Lane.BoundByState.unbound_iff (h : l.BoundByState) : l.state = .unbound ↔ l.bound = false := by
  rw [← Bool.not_eq_true, not_iff_comm.1 (Iff.comm.1 h)]

theorem Lane.setDoubt_feedReported (nodes : Table Node 64) (l : Lane) :
    (l.setDoubt nodes).FeedReported nodes := by
  simp [Lane.feedReported_iff, Lane.setDoubt]

/-- Only node states decide what is reported of a feed. -/
theorem Lane.FeedReported.of_states (h : l.FeedReported nodes)
    (hs : ∀ r ∈ l.refs, (nodes'.get r.slot).state = (nodes.get r.slot).state) :
    l.FeedReported nodes' := by
  unfold Lane.FeedReported at *
  rw [h]
  exact exists_congr fun r => and_congr_right fun hr => by rw [hs r hr]

theorem Lane.refs_unfresh (l : Lane) :
    (l.cells.map (fun c => { c with fresh := false })).map LaneCell.ref = l.refs := by
  simp [Lane.refs]

/-! ### Agreement after the judgement of an event -/

/-- The event leaves agree and ref band, and a lane that leaves UNBOUND goes where no count is held. -/
def Lane.KeepsAgreement (l k : Lane) : Prop :=
  k.state ≠ .unbound → k.agree = l.agree ∧ k.refBand = l.refBand
    ∧ (l.state = .unbound → k.state = .acquiring ∨ k.state = .blind)

/-- What an event may do to agreement before it is judged: leave it, or write agree and the bands so that
they agree. -/
def Lane.CarriesAgreement (l k : Lane) : Prop :=
  l.KeepsAgreement k ∨ (k.agree = true ∧ k.band = k.refBand)

theorem Lane.KeepsAgreement.of_same (ha : k.agree = l.agree) (hr : k.refBand = l.refBand)
    (hu : k.state = .unbound ↔ l.state = .unbound) : l.KeepsAgreement k :=
  fun hk => ⟨ha, hr, fun hl => absurd (hu.2 hl) hk⟩

/-- A trigger of R66 never leaves the lane UNBOUND. -/
theorem Lane.triggered_not_unbound (h : Lane.triggered hold l k = true) : k.state ≠ .unbound := by
  intro hu
  simp [Lane.triggered, hu, LaneState.judged] at h

/-- An agreement evaluation with raising sets agree from the two bands (R66). -/
theorem Lane.evaluateRaising_agree (l : Lane) :
    (l.evaluateRaising groups now).agree = (l.band == l.refBand) := by
  unfold Lane.evaluateRaising
  simp only
  split <;> rfl

/-- After its event is judged, an unfrozen lane agrees exactly while its band is its ref band. -/
theorem Lane.Agrees.judge (h : l.Agrees hold) (hc : l.CarriesAgreement k) :
    (Lane.judge groups now hold hold' l k).Agrees hold' := by
  unfold Lane.judge
  split_ifs with hf ht
  · intro _ hn
    rw [hf] at hn
    cases hn
  · intro _ _
    rw [Lane.evaluateRaising_agree, beq_iff_eq]
    unfold Lane.evaluateRaising
    simp only
    split <;> exact Iff.rfl
  · intro hu hn
    obtain ⟨-, -, hacq⟩ := Lane.frozen_eq_false.1 hn
    rcases hc with hc | ⟨ha, hb⟩
    · obtain ⟨ha, hr, hub⟩ := hc hu
      have hj : k.state.judged = true := (LaneState.judged_iff _).2 ⟨hu, hacq⟩
      simp only [Lane.triggered, hu, hj, Bool.or_eq_true, Bool.and_eq_true, bne_iff_ne, ne_eq,
        not_false_eq_true, and_true, beq_iff_eq, not_or, not_not, Bool.not_eq_true, not_and] at ht
      obtain ⟨⟨hband, hlf⟩, hblind⟩ := ht
      have hlu : l.state ≠ .unbound := fun hl => (hub hl).elim hacq (hblind hl)
      rw [ha, hr, ← hband]
      exact h hlu hlf
    · simp [ha, hb]

theorem Lane.judge_cases : Lane.judge groups now hold hold' l k = k
    ∨ k.state ≠ .unbound ∧ Lane.judge groups now hold hold' l k = k.evaluateRaising groups now := by
  unfold Lane.judge
  split_ifs with hf ht
  · exact .inl rfl
  · exact .inr ⟨Lane.triggered_not_unbound ht, rfl⟩
  · exact .inl rfl

theorem Lane.judge_sameFeed : k.SameFeed (Lane.judge groups now hold hold' l k) := by
  rw [Lane.judge_frame]
  exact ⟨rfl, rfl, rfl, Iff.rfl⟩

theorem Lane.Coherent.raise (h : l.Coherent) (hu : l.state ≠ .unbound) :
    (l.raise groups now).Coherent :=
  { h with
    lit_pending := fun _ => rfl
    band_pending := fun _ => ⟨rfl, rfl⟩
    raise_time := fun _ => rfl
    unbound_clear := fun hs => absurd hs hu }

theorem Lane.Coherent.withAgree (h : l.Coherent) (a : Bool) : ({ l with agree := a } : Lane).Coherent :=
  { h with }

theorem Lane.Coherent.judge (h : k.Coherent) : (Lane.judge groups now hold hold' l k).Coherent := by
  rcases Lane.judge_cases (groups := groups) (now := now) (hold := hold) (hold' := hold') (l := l) (k := k)
    with he | ⟨hu, he⟩
  · rwa [he]
  · rw [he]
    unfold Lane.evaluateRaising
    simp only
    split
    · exact (h.withAgree _).raise hu
    · exact h.withAgree _

/-- The judgement of an event completes what the event made of a sound record. -/
theorem Lane.Sound.judge (h : l.Sound nodes hold) (hb : k.BoundByState) (hc : k.Coherent)
    (hf : k.FeedReported nodes') (ha : l.CarriesAgreement k) :
    (Lane.judge groups now hold hold' l k).Sound nodes' hold' :=
  ⟨Lane.judge_sameFeed.boundByState hb, hc.judge, Lane.judge_sameFeed.feedReported hf, h.agrees.judge ha⟩

/-! ### Events that keep the cells and are judged -/

/-- What an event of a lane that keeps its cells does before it is judged. -/
structure Lane.Moves (l k : Lane) : Prop extends Lane.SameFeed l k where
  carries : l.CarriesAgreement k
  coherent : l.Coherent → k.Coherent

theorem Lane.Moves.refl (l : Lane) : l.Moves l where
  toSameFeed := .refl l
  carries := .inl <| .of_same rfl rfl Iff.rfl
  coherent := id

theorem Lane.Moves.judge (h : l.Moves k) (hl : l.Sound nodes hold) :
    (Lane.judge groups now hold hold' l k).Sound nodes hold' :=
  hl.judge (h.boundByState hl.bound) (h.coherent hl.coherent) (h.feedReported hl.feed) h.carries

theorem Lane.moves_enterBlind (h : l.state ≠ .unbound) : l.Moves l.enterBlind where
  refs := by simp [Lane.enterBlind_record, Lane.refs]
  enabled := by rw [Lane.enterBlind_record]
  doubt := by rw [Lane.enterBlind_record]
  unbound := by simp [Lane.enterBlind, h]
  carries := .inl <| .of_same (by rw [Lane.enterBlind_record]) (by rw [Lane.enterBlind_record])
    (by simp [Lane.enterBlind, h])
  coherent := Lane.Coherent.enterBlind

theorem Lane.moves_nodeLost (l : Lane) : l.Moves l.nodeLost := by
  unfold Lane.nodeLost
  split_ifs with h
  · exact Lane.moves_enterBlind (LaneState.counting_ne _ h).1
  · exact .refl l

/-- A settled result reaches counting lanes only, and leaves them counting. -/
theorem Lane.moves_settledResult (h : l.state.counting = true) (w : Int) :
    l.Moves (l.settledResult w) := by
  obtain ⟨hu, hb⟩ := LaneState.counting_ne _ h
  cases hz : l.zeroDeadline with
  | some d =>
    rw [Lane.settledResult_of_zeroing l w (by simp [hz])]
    exact {
      refs := rfl, enabled := rfl, doubt := rfl
      unbound := by simp [hu]
      carries := .inr ⟨rfl, rfl⟩
      coherent := fun c => { c with
        band_unknown := by simp [LaneState.uncounted]
        window_empty := nofun
        zeroing_counting := nofun
        lit_pending := nofun
        band_pending := nofun
        raise_time := nofun
        unbound_clear := nofun } }
  | none =>
    rcases Bool.eq_false_or_eq_true (estimate l.config w).fit with hf | hf
    · rw [Lane.settledResult_of_fit l w hz hf]
      exact {
        refs := rfl, enabled := rfl, doubt := rfl
        unbound := by simp [hu]
        carries := .inl <| .of_same rfl rfl (by simp [hu])
        coherent := fun c => { c with
          band_unknown := by simp [LaneState.uncounted, nextBand_ne_unknown]
          window_empty := nofun
          zeroing_counting := fun _ => rfl
          unbound_clear := nofun } }
    · by_cases hr : l.config.unfitLimit ≤ min 255 (l.unfitRun + 1)
      · rw [Lane.settledResult_of_suspect l w hz hf hr]
        exact {
          refs := rfl, enabled := rfl, doubt := rfl
          unbound := by simp [hu]
          carries := .inl <| .of_same rfl rfl (by simp [hu])
          coherent := fun c => { c with
            band_unknown := by simp [LaneState.uncounted]
            window_empty := nofun
            zeroing_counting := fun _ => rfl
            unbound_clear := nofun } }
      · rw [Lane.settledResult_of_unfit l w hz hf (Nat.not_le.1 hr), ← LaneState.disturbed_eq]
        exact {
          refs := rfl, enabled := rfl, doubt := rfl
          unbound := LaneState.disturbed_unbound _
          carries := .inl <| .of_same rfl rfl (LaneState.disturbed_unbound _)
          coherent := fun c => { c with
            band_unknown := by simpa using c.band_unknown
            window_empty := by simpa using c.window_empty
            zeroing_counting := by simpa using c.zeroing_counting
            unbound_clear := fun hs => absurd ((LaneState.disturbed_unbound _).1 hs) hu } }

/-- A counting lane holds any window. -/
theorem Lane.Coherent.withWindow (h : l.Coherent) (hc : l.state.counting = true) (w : List Int) :
    ({ l with window := w } : Lane).Coherent :=
  { h with
    window_empty := fun hs =>
      absurd hs (not_or.2 ⟨(LaneState.counting_ne _ hc).1, (LaneState.counting_ne _ hc).2⟩) }

theorem Lane.moves_joinWindow (h : l.state.counting = true) (x : Int) : l.Moves (l.joinWindow x) := by
  obtain ⟨hu, hb⟩ := LaneState.counting_ne _ h
  rw [Lane.joinWindow_eq, ← LaneState.disturbed_eq]
  split_ifs with hw hs
  · exact {
      refs := rfl, enabled := rfl, doubt := rfl, unbound := Iff.rfl
      carries := .inl <| .of_same rfl rfl Iff.rfl
      coherent := fun c => c.withWindow h _ }
  · have m := Lane.moves_settledResult (l := { l with window := l.joined x }) h
      (roundDiv (l.joined x).sum l.config.settleCount)
    exact { m with coherent := fun c => m.coherent (c.withWindow h _) }
  · exact {
      refs := rfl, enabled := rfl, doubt := rfl
      unbound := LaneState.disturbed_unbound _
      carries := .inl <| .of_same rfl rfl (LaneState.disturbed_unbound _)
      coherent := fun c => { c.withWindow h (l.joined x) with
        band_unknown := by simpa using c.band_unknown
        window_empty := by simp [hu, hb]
        zeroing_counting := by simpa using c.zeroing_counting
        unbound_clear := fun hs => absurd ((LaneState.disturbed_unbound _).1 hs) hu } }

theorem Lane.moves_takeSample (nodes : Table Node 64) (sum : Int) (valid : Bool) (l : Lane) :
    l.Moves (l.takeSample nodes sum valid) := by
  by_cases hu : l.state = .unbound
  · rw [l.takeSample_of_unbound nodes sum hu]
    exact .refl l
  by_cases hb : l.state = .blind
  · rw [l.takeSample_of_blind nodes sum hb]
    split_ifs
    · exact {
        refs := l.refs_unfresh, enabled := rfl, doubt := rfl
        unbound := by simp [Lane.enterAcquiring, hb]
        carries := .inl <| .of_same rfl rfl (by simp [Lane.enterAcquiring, hb])
        coherent := fun c => c.enterAcquiring.withWindow rfl _ }
    · exact .refl l
  · have hc : l.state.counting = true := by cases hs : l.state <;> simp_all [LaneState.counting]
    rw [l.takeSample_of_counting nodes sum hc]
    split_ifs
    · exact Lane.moves_joinWindow hc sum
    · exact Lane.moves_enterBlind hu

/-- Cells that keep their places may take other values and freshness before the event goes on. -/
theorem Lane.Moves.of_cells {cells : List LaneCell} (hc : cells.map LaneCell.ref = l.refs)
    (h : ({ l with cells := cells } : Lane).Moves k) : l.Moves k where
  refs := h.refs.trans hc
  enabled := h.enabled
  doubt := h.doubt
  unbound := h.unbound
  carries := h.carries
  coherent := fun c => h.coherent { c with }

theorem LaneCell.capture_ref (calibration : Table Calibration 256) (slot : Fin 64)
    (raws : List RawCell) (c : LaneCell) : (c.capture calibration slot raws).ref = c.ref := by
  unfold LaneCell.capture
  split
  · split <;> rfl
  · rfl

theorem Lane.refs_capture (calibration : Table Calibration 256) (slot : Fin 64) (raws : List RawCell)
    (l : Lane) : (l.cells.map (LaneCell.capture calibration slot raws)).map LaneCell.ref = l.refs := by
  rw [List.map_map]
  exact List.map_congr_left fun c _ => LaneCell.capture_ref calibration slot raws c

/-- A reading's cells reach a lane (R33, R34, R8). -/
theorem Lane.moves_capture (nodes : Table Node 64) (calibration : Table Calibration 256)
    (slot : Fin 64) (raws : List RawCell) (l : Lane) :
    l.Moves (l.capture nodes calibration slot raws) := by
  unfold Lane.capture
  have hr := Lane.refs_capture calibration slot raws l
  simp only
  split_ifs
  · refine .of_cells ?_ (Lane.moves_takeSample nodes _ _ _)
    rw [← hr]
    exact Lane.refs_unfresh { l with cells := l.cells.map (LaneCell.capture calibration slot raws) }
  · exact .of_cells hr (.refl _)
  · exact .refl l

/-! ### Events that leave agree and ref band -/

/-- The event keeps the cells and leaves agree and ref band. -/
structure Lane.Leaves (l k : Lane) : Prop extends Lane.SameFeed l k where
  agree : k.agree = l.agree
  refBand : k.refBand = l.refBand
  coherent : l.Coherent → k.Coherent

theorem Lane.Leaves.refl (l : Lane) : l.Leaves l := ⟨.refl l, rfl, rfl, id⟩

theorem Lane.Leaves.trans (h : l.Leaves k) (g : k.Leaves m) : l.Leaves m :=
  ⟨h.toSameFeed.trans g.toSameFeed, g.agree.trans h.agree, g.refBand.trans h.refBand,
    g.coherent ∘ h.coherent⟩

theorem Lane.Leaves.moves (h : l.Leaves k) : l.Moves k :=
  ⟨h.toSameFeed, .inl (.of_same h.agree h.refBand h.unbound), h.coherent⟩

/-- The replenish deadline is cleared (R72). -/
theorem Lane.leaves_clearReplenish (l : Lane) : l.Leaves { l with replenishDeadline := none } where
  toSameFeed := ⟨rfl, rfl, rfl, Iff.rfl⟩
  agree := rfl
  refBand := rfl
  coherent := fun c => { c with
    unbound_clear := fun hu => by
      obtain ⟨ha, -, hr, ho⟩ := c.unbound_clear hu
      exact ⟨ha, rfl, hr, ho⟩ }

/-- Zeroing ends (R14, R15, R16). -/
theorem Lane.leaves_endZeroing (r : ZeroResult) (l : Lane) : l.Leaves (l.endZeroing r) where
  toSameFeed := ⟨rfl, rfl, rfl, Iff.rfl⟩
  agree := rfl
  refBand := rfl
  coherent := fun c => { c with zeroing_counting := nofun }

theorem Lane.leaves_cancelZeroing (l : Lane) : l.Leaves l.cancelZeroing := by
  unfold Lane.cancelZeroing
  split
  · exact l.leaves_endZeroing _
  · exact .refl l

/-- The first half of `State.takeDeadlines`: a reached zeroing deadline is taken (R15). -/
def Lane.zeroingTimed (now : Clock) (l : Lane) : Lane :=
  match l.zeroDeadline with
  | some d => if reached now d then l.endZeroing .timeout else l
  | none => l

/-- The second half: a reached replenish deadline clears (R72). -/
def Lane.replenishTimed (now : Clock) (l : Lane) : Lane :=
  match l.replenishDeadline with
  | some d => if reached now d then { l with replenishDeadline := none } else l
  | none => l

theorem takeDeadlines_eq (now : Clock) (l : Lane) :
    State.takeDeadlines now l = (l.zeroingTimed now).replenishTimed now := rfl

theorem Lane.leaves_zeroingTimed (now : Clock) (l : Lane) : l.Leaves (l.zeroingTimed now) := by
  unfold Lane.zeroingTimed
  split
  · split
    · exact l.leaves_endZeroing _
    · exact .refl l
  · exact .refl l

theorem Lane.leaves_replenishTimed (now : Clock) (l : Lane) : l.Leaves (l.replenishTimed now) := by
  unfold Lane.replenishTimed
  split
  · split
    · exact l.leaves_clearReplenish
    · exact .refl l
  · exact .refl l

/-- The deadlines of a lane that the clock has reached are taken (R15, R72). -/
theorem Lane.leaves_takeDeadlines (now : Clock) (l : Lane) : l.Leaves (State.takeDeadlines now l) := by
  rw [takeDeadlines_eq]
  exact (l.leaves_zeroingTimed now).trans (Lane.leaves_replenishTimed now _)

/-- The event also leaves the band and the freeze causes: agreement needs no judgement. -/
structure Lane.Quiet (l k : Lane) : Prop extends Lane.Leaves l k where
  band : k.band = l.band
  acquiring : k.state = .acquiring ↔ l.state = .acquiring
  replenish : k.replenishDeadline = l.replenishDeadline

theorem Lane.Quiet.refl (l : Lane) : l.Quiet l := ⟨.refl l, rfl, Iff.rfl, rfl⟩

theorem Lane.Quiet.sound (h : l.Quiet k) (hl : l.Sound nodes hold) : k.Sound nodes hold where
  bound := h.boundByState hl.bound
  coherent := h.coherent hl.coherent
  feed := h.feedReported hl.feed
  agrees := by
    intro hu hf
    obtain ⟨hr, hh, ha⟩ := Lane.frozen_eq_false.1 hf
    rw [h.agree, h.band, h.refBand]
    exact hl.agrees (mt h.unbound.2 hu)
      (Lane.frozen_eq_false.2 ⟨h.replenish ▸ hr, hh, mt h.acquiring.2 ha⟩)

theorem Lane.quiet_endZeroing (r : ZeroResult) (l : Lane) : l.Quiet (l.endZeroing r) where
  toLeaves := l.leaves_endZeroing r
  band := rfl
  acquiring := Iff.rfl
  replenish := rfl

/-- A short press, a bay key event or a take of the notice clears what it clears (R77, R92). -/
theorem Lane.quiet_unlit (l : Lane) : l.Quiet { l with beaconLit := false } where
  toLeaves := ⟨⟨rfl, rfl, rfl, Iff.rfl⟩, rfl, rfl, fun c => { c with lit_pending := nofun }⟩
  band := rfl
  acquiring := Iff.rfl
  replenish := rfl

/-- The notice of a lane is taken: its kinds are emptied and its alert, if among them, announced (R92). -/
theorem Lane.quiet_taken (l : Lane) : l.Quiet { l with
    kinds := .none, due := false, alertAnnounced := l.alertAnnounced || l.kinds.band } where
  toLeaves := ⟨⟨rfl, rfl, rfl, Iff.rfl⟩, rfl, rfl, fun c => { c with band_pending := nofun }⟩
  band := rfl
  acquiring := Iff.rfl
  replenish := rfl

/-- An announcement of its group reaches a lane (R84). -/
theorem Lane.quiet_announce (l : Lane) : l.Quiet l.announce := by
  unfold Lane.announce
  split_ifs with h
  · obtain ⟨hp, ha⟩ : l.alertPending = true ∧ l.alertAnnounced = false := by simpa using h
    exact {
      toLeaves := ⟨⟨rfl, rfl, rfl, Iff.rfl⟩, rfl, rfl, fun c => { c with band_pending := fun _ => ⟨hp, ha⟩ }⟩
      band := rfl, acquiring := Iff.rfl, replenish := rfl }
  · exact .refl l

theorem Lane.quiet_settleDue (now : Clock) (b l : Lane) : l.Quiet (Lane.settleDue now b l) := by
  unfold Lane.settleDue
  split_ifs
  · exact ⟨⟨⟨rfl, rfl, rfl, Iff.rfl⟩, rfl, rfl, fun c => { c with }⟩, rfl, Iff.rfl, rfl⟩
  · exact ⟨⟨⟨rfl, rfl, rfl, Iff.rfl⟩, rfl, rfl, fun c => { c with }⟩, rfl, Iff.rfl, rfl⟩
  · exact .refl l

/-- The window is emptied and a STEADY lane disturbed (R6), as by a relay or by ZERO LANE. -/
theorem Lane.quiet_disturbed (l : Lane) : l.Quiet { l.clearWindow with state := l.state.disturbed } where
  refs := l.refs_unfresh
  enabled := rfl
  doubt := rfl
  unbound := LaneState.disturbed_unbound _
  agree := rfl
  refBand := rfl
  coherent := fun c => { c.clearWindow with
    band_unknown := by simpa [Lane.clearWindow] using c.band_unknown
    window_empty := fun _ => rfl
    zeroing_counting := by simpa [Lane.clearWindow] using c.zeroing_counting
    unbound_clear := by simpa [Lane.clearWindow] using c.unbound_clear }
  band := rfl
  acquiring := LaneState.disturbed_acquiring _
  replenish := rfl

theorem Lane.quiet_disturb (l : Lane) : l.Quiet l.disturb := by
  unfold Lane.disturb
  split_ifs
  · exact .refl l
  · exact l.quiet_disturbed

/-- ZERO LANE on a counting lane (R13). -/
theorem Lane.quiet_beginZeroing (h : l.state.counting = true) : l.Quiet (l.beginZeroing now) :=
  { l.quiet_disturbed with
    refs := l.quiet_disturbed.refs
    coherent := fun c => { l.quiet_disturbed.coherent c with
      zeroing_counting := fun _ => by simpa [Lane.beginZeroing] using h } }

/-! ### Events that are judged by their own rules -/

theorem Lane.acknowledge_refs (hold : Bool) (b : Band) (l : Lane) :
    (l.acknowledge hold b).refs = l.refs := by
  unfold Lane.acknowledge Lane.evaluateQuietly
  split_ifs <;> rfl

/-- One pair of an ACKNOWLEDGE (R79): an unfrozen lane is evaluated, and a frozen one is not judged. -/
theorem Lane.Sound.acknowledge (h : l.Sound nodes hold) (b : Band) :
    (l.acknowledge hold b).Sound nodes hold := by
  have hc : ({ l with
      refBand := b, alertPending := false, beaconLit := false
      kinds := { l.kinds with band := false } } : Lane).Coherent :=
    { h.coherent with
      lit_pending := nofun
      band_pending := nofun
      raise_time := nofun
      unbound_clear := fun hu => ⟨rfl, (h.coherent.unbound_clear hu).2⟩ }
  unfold Lane.acknowledge Lane.evaluateQuietly
  split_ifs with hf
  · exact ⟨h.bound, hc, h.feed, fun _ hn => absurd hf (by rw [hn]; simp)⟩
  · exact ⟨h.bound, hc.withAgree _, h.feed, fun _ _ => beq_iff_eq⟩

/-- A bay key event freezes the lane it reaches (R71). -/
theorem Lane.Sound.bayKey (h : l.Sound nodes hold) : (l.bayKey now).Sound nodes hold := by
  unfold Lane.bayKey
  split_ifs with hb
  · have hu : l.state ≠ .unbound := h.bound.1 (by simp_all)
    exact ⟨h.bound,
      { h.coherent with
        lit_pending := nofun
        unbound_clear := fun hs => absurd hs hu },
      h.feed, fun _ hf => absurd (Lane.frozen_eq_false.1 hf).1 (by simp)⟩
  · exact h

theorem Lane.feedReported_of_clear (hd : l.feedDoubtful = false)
    (hn : ∀ i, (nodes.get i).state ≠ .doubtful) : l.FeedReported nodes := by
  simp [Lane.FeedReported, hd, hn]

/-! ### Entries to a state -/

/-- An entry to ACQUIRING or BLIND: what it leaves (R5, R7). -/
structure Lane.Enters (l k : Lane) : Prop where
  refs : k.refs = l.refs
  config : k.config = l.config
  doubt : k.feedDoubtful = l.feedDoubtful
  agree : k.agree = l.agree
  refBand : k.refBand = l.refBand
  state : k.state = .acquiring ∨ k.state = .blind
  coherent : l.Coherent → k.Coherent

theorem Lane.enters_enterAcquiring (l : Lane) : l.Enters l.enterAcquiring :=
  ⟨l.refs_unfresh, rfl, rfl, rfl, rfl, .inl rfl, Lane.Coherent.enterAcquiring⟩

theorem Lane.enters_enterBlind (l : Lane) : l.Enters l.enterBlind := by
  refine ⟨?_, ?_, ?_, ?_, ?_, .inr rfl, Lane.Coherent.enterBlind⟩ <;> rw [Lane.enterBlind_record]
  exact l.refs_unfresh

theorem Lane.enters_enterBound (nodes : Table Node 64) (l : Lane) : l.Enters (l.enterBound nodes) := by
  unfold Lane.enterBound
  split
  · exact l.enters_enterBlind
  · exact l.enters_enterAcquiring

namespace Lane.Enters

theorem not_unbound (h : l.Enters k) : k.state ≠ .unbound := by
  rcases h.state with hs | hs <;> simp [hs]

theorem bound_eq (h : l.Enters k) : k.bound = l.bound := by
  rw [Lane.bound_eq_refs, Lane.bound_eq_refs, h.refs, h.config]

theorem boundByState (h : l.Enters k) (hb : l.bound = true) : k.BoundByState :=
  iff_of_true (h.bound_eq.trans hb) h.not_unbound

theorem feedReported (h : l.Enters k) (hf : l.FeedReported nodes) : k.FeedReported nodes := by
  unfold Lane.FeedReported
  rw [h.refs, h.doubt]
  exact hf

end Lane.Enters

theorem Lane.enterUnbound_refs (l : Lane) : l.enterUnbound.refs = l.refs := by
  simp [Lane.enterUnbound, Lane.cancelZeroing_record, Lane.refs]

theorem Lane.enterUnbound_config (l : Lane) : l.enterUnbound.config = l.config := by
  simp [Lane.enterUnbound, Lane.cancelZeroing_record]

theorem Lane.enterUnbound_feedDoubtful (l : Lane) : l.enterUnbound.feedDoubtful = l.feedDoubtful := by
  simp [Lane.enterUnbound, Lane.cancelZeroing_record, Lane.clearWindow]

theorem Lane.enterUnbound_boundByState (h : l.bound = false) : l.enterUnbound.BoundByState := by
  refine iff_of_false ?_ (by simp [Lane.enterUnbound])
  rw [Lane.bound_eq_refs, Lane.enterUnbound_refs, Lane.enterUnbound_config, ← Lane.bound_eq_refs, h]
  simp

/-! ### Warm start -/

/-- A lane record at warm start before a bound lane acquires (R18). -/
def Lane.warmed (l : Lane) : Lane :=
  ({ l.clearWindow with replenishDeadline := none, feedDoubtful := false } : Lane).cancelZeroing

theorem Lane.warm_eq (l : Lane) :
    l.warm = if l.warmed.bound then l.warmed.enterAcquiring else l.warmed := rfl

theorem Lane.warmed_leaves (l : Lane) : ({ l.clearWindow with
    replenishDeadline := none, feedDoubtful := false } : Lane).Leaves l.warmed :=
  Lane.leaves_cancelZeroing _

theorem Lane.warmed_bound (l : Lane) : l.warmed.bound = l.bound := by
  refine l.warmed_leaves.bound_eq.trans ?_
  rw [Lane.bound_eq_refs, Lane.bound_eq_refs l, ← l.refs_unfresh]
  rfl

theorem Lane.Coherent.warmed (h : l.Coherent) : l.warmed.Coherent :=
  l.warmed_leaves.coherent { h.clearWindow with
    unbound_clear := fun hu => by
      obtain ⟨ha, -, hr, ho⟩ := h.unbound_clear hu
      exact ⟨ha, rfl, hr, ho⟩ }

/-- A lane at warm start: bound lanes acquire, and no node is DOUBTFUL any more (R18, R135). -/
theorem Lane.Sound.warm (h : l.Sound nodes hold)
    (hn : ∀ i, (nodes'.get i).state ≠ .doubtful) : l.warm.Sound nodes' hold' := by
  have hd := l.warmed_leaves.doubt
  rw [Lane.warm_eq]
  split_ifs with hb
  · have he := l.warmed.enters_enterAcquiring
    exact ⟨he.boundByState hb, he.coherent h.coherent.warmed,
      Lane.feedReported_of_clear (he.doubt.trans hd) hn,
      fun _ hf => absurd rfl (Lane.frozen_eq_false.1 hf).2.2⟩
  · have hb' := hb
    rw [Lane.warmed_bound, Bool.not_eq_true, ← h.bound.unbound_iff] at hb'
    have hu : l.warmed.state = .unbound := l.warmed_leaves.unbound.2 hb'
    exact ⟨iff_of_false hb (not_not.2 hu), h.coherent.warmed, Lane.feedReported_of_clear hd hn,
      fun hs => absurd hu hs⟩

theorem Lane.warm_refs (l : Lane) : l.warm.refs = l.refs := by
  have hw : l.warmed.refs = l.refs := l.warmed_leaves.refs.trans l.refs_unfresh
  rw [Lane.warm_eq]
  split_ifs
  · exact l.warmed.enters_enterAcquiring.refs.trans hw
  · exact hw

/-! ### Events that may bind, unbind or doubt a lane -/

/-- What such an event makes of a sound record before it is judged. -/
structure Lane.Judgeable (nodes : Table Node 64) (l k : Lane) : Prop where
  bound : k.BoundByState
  coherent : k.Coherent
  feed : k.FeedReported nodes
  keeps : l.KeepsAgreement k

theorem Lane.Judgeable.sound (j : l.Judgeable nodes' k) (h : l.Sound nodes hold) :
    (Lane.judge groups now hold hold' l k).Sound nodes' hold' :=
  h.judge j.bound j.coherent j.feed (.inl j.keeps)

/-- Feed doubtful set again makes the report current (R10). -/
theorem Lane.judgeable_setDoubt (hb : k.BoundByState) (hc : k.Coherent) (hk : l.KeepsAgreement k) :
    l.Judgeable nodes (k.setDoubt nodes) :=
  ⟨hb, hc.setDoubt, k.setDoubt_feedReported nodes, hk⟩

/-- A change of state of a node that feeds the lane (R131, R7, R10). -/
theorem Lane.judgeable_reported (h : l.Sound nodes hold) (lost : Bool) :
    l.Judgeable nodes' ((if lost then l.nodeLost else l).setDoubt nodes') := by
  have hkeeps : l.KeepsAgreement l.nodeLost := by
    unfold Lane.nodeLost
    split_ifs with hc
    · have he := l.enters_enterBlind
      exact .of_same he.agree he.refBand (iff_of_false he.not_unbound (LaneState.counting_ne _ hc).1)
    · exact .of_same rfl rfl Iff.rfl
  cases lost
  · exact judgeable_setDoubt h.bound h.coherent (.of_same rfl rfl Iff.rfl)
  · have m := l.moves_nodeLost
    exact judgeable_setDoubt (m.boundByState h.bound) (m.coherent h.coherent) hkeeps

/-! ### A stored WRITE LANE -/

/-- The lane whose configuration was written, zeroing cancelled: the first step of R11. -/
def Lane.rewritten (c : LaneConfig) (l : Lane) : Lane := ({ l with config := c } : Lane).cancelZeroing

theorem Lane.rewritten_leaves (c : LaneConfig) (l : Lane) :
    ({ l with config := c } : Lane).Leaves (l.rewritten c) := Lane.leaves_cancelZeroing _

theorem Lane.rewritten_config (c : LaneConfig) (l : Lane) : (l.rewritten c).config = c := by
  rw [Lane.rewritten, Lane.cancelZeroing_record]

theorem Lane.rewritten_state (c : LaneConfig) (l : Lane) : (l.rewritten c).state = l.state := by
  rw [Lane.rewritten, Lane.cancelZeroing_record]

theorem Lane.rewritten_bound (c : LaneConfig) (l : Lane) :
    (l.rewritten c).bound = (c.enabled && !l.cells.isEmpty) :=
  (l.rewritten_leaves c).bound_eq

theorem Lane.rewritten_feedReported (c : LaneConfig) (h : l.FeedReported nodes) :
    (l.rewritten c).FeedReported nodes := (l.rewritten_leaves c).feedReported h

/-- A rewritten lane whose boundness is as it was. -/
theorem Lane.judgeable_rewritten (h : l.Sound nodes hold) (c : LaneConfig)
    (hb : (l.rewritten c).bound = l.bound) : l.Judgeable nodes (l.rewritten c) where
  bound := by
    unfold Lane.BoundByState
    rw [hb, Lane.rewritten_state]
    exact h.bound
  coherent := (l.rewritten_leaves c).coherent (h.coherent.withConfig c)
  feed := l.rewritten_feedReported c h.feed
  keeps := .of_same (l.rewritten_leaves c).agree (l.rewritten_leaves c).refBand
    (by rw [Lane.rewritten_state])

/-- The branches of R11 on a rewritten lane. -/
theorem Lane.rewriteState_eq (nodes : Table Node 64) (c : LaneConfig) (l : Lane) :
    ({ l with config := c } : Lane).rewriteState nodes l.config =
      if c.enabled != l.config.enabled then
        if l.cells.isEmpty then l.rewritten c
        else if c.enabled then ((l.rewritten c).enterBound nodes).setDoubt nodes
        else (l.rewritten c).enterUnbound
      else if l.state.counting && (c.unitWeight != l.config.unitWeight || c.tare != l.config.tare) then
        (l.rewritten c).enterAcquiring
      else l.rewritten c := by
  have hcells : (l.rewritten c).cells.isEmpty = l.cells.isEmpty := by
    rw [Lane.rewritten, Lane.cancelZeroing_record]
  rw [← hcells, ← l.rewritten_state c]
  conv_rhs => rw [← l.rewritten_config c]
  simp only [Lane.rewriteState, Lane.rewritten, Lane.cancelZeroing_record]

theorem Lane.judgeable_rewriteState (h : l.Sound nodes hold) (c : LaneConfig) :
    l.Judgeable nodes (({ l with config := c } : Lane).rewriteState nodes l.config) := by
  have hl := l.rewritten_leaves c
  have hcoh := hl.coherent (h.coherent.withConfig c)
  have hfeed := l.rewritten_feedReported c h.feed
  have hbound := l.rewritten_bound c
  rw [Lane.rewriteState_eq]
  split_ifs with henabled hempty hon hrecount
  · exact judgeable_rewritten h c (by rw [hbound]; simp [Lane.bound, hempty])
  · have he := (l.rewritten c).enters_enterBound nodes
    have hu : (l.rewritten c).bound = true := by simp [hbound, hon, hempty]
    exact judgeable_setDoubt (he.boundByState hu) (he.coherent hcoh) fun _ =>
      ⟨he.agree.trans hl.agree, he.refBand.trans hl.refBand, fun _ => he.state⟩
  · refine ⟨Lane.enterUnbound_boundByState (by simp [hbound, hon]), hcoh.enterUnbound, ?_,
      fun hs => absurd rfl hs⟩
    unfold Lane.FeedReported
    rw [Lane.enterUnbound_refs, Lane.enterUnbound_feedDoubtful]
    exact hfeed
  · have he := (l.rewritten c).enters_enterAcquiring
    have hu : l.state ≠ .unbound := by
      intro hs
      simp [hs, LaneState.counting] at hrecount
    have hb : (l.rewritten c).bound = true := by
      rw [hbound, (by simpa using henabled : c.enabled = l.config.enabled)]
      exact h.bound.2 hu
    exact ⟨he.boundByState hb, he.coherent hcoh, he.feedReported hfeed, fun _ =>
      ⟨he.agree.trans hl.agree, he.refBand.trans hl.refBand, fun _ => he.state⟩⟩
  · exact judgeable_rewritten h c
      (by rw [hbound, (by simpa using henabled : c.enabled = l.config.enabled)]; rfl)

theorem Lane.Judgeable.rewriteRest (h : l.Judgeable nodes k) (old : LaneConfig) :
    l.Judgeable nodes (k.rewriteRest old) where
  bound := h.bound
  coherent := { h.coherent with
    window_empty := fun hs => by simp [Lane.rewriteRest, h.coherent.window_empty hs]
    unbound_clear := fun hs => by
      obtain ⟨ha, hr, hu, ho⟩ := h.coherent.unbound_clear hs
      have hs' : k.state = .unbound := hs
      exact ⟨ha, hr, hu, by simp [Lane.rewriteRest, hs', ho]⟩ }
  feed := h.feed
  keeps := h.keeps

theorem Lane.Judgeable.rewriteBand (h : l.Judgeable nodes k) (old : LaneConfig) :
    l.Judgeable nodes (k.rewriteBand old) := by
  unfold Lane.rewriteBand
  split_ifs with hs
  · refine ⟨h.bound, { h.coherent with band_unknown := ?_ }, h.feed, h.keeps⟩
    rw [LaneState.uncounted_iff]
    have hs' : k.state = .steady ∨ k.state = .moving := by
      simp only [Bool.and_eq_true, Bool.or_eq_true, beq_iff_eq] at hs
      exact hs.1
    exact iff_of_false (nextBand_ne_unknown _ _ _) (by tauto)
  · exact h

theorem Lane.judgeable_rewrite (h : l.Sound nodes hold) (c : LaneConfig) :
    l.Judgeable nodes (l.rewrite nodes c) :=
  ((judgeable_rewriteState h c).rewriteRest _).rewriteBand _

theorem Lane.rewrite_refs (nodes : Table Node 64) (c : LaneConfig) (l : Lane) :
    (l.rewrite nodes c).refs = l.refs := by
  have hstate : (({ l with config := c } : Lane).rewriteState nodes l.config).refs = l.refs := by
    have hl : (l.rewritten c).refs = l.refs := (l.rewritten_leaves c).refs
    rw [Lane.rewriteState_eq]
    split_ifs
    · exact hl
    · exact ((l.rewritten c).enters_enterBound nodes).refs.trans hl
    · exact (l.rewritten c).enterUnbound_refs.trans hl
    · exact (l.rewritten c).enters_enterAcquiring.refs.trans hl
    · exact hl
  unfold Lane.rewrite Lane.rewriteBand
  split_ifs
  · exact hstate
  · exact hstate

/-! ### Cold start -/

/-- A lane record at its cold start values (R17), while no node is DOUBTFUL. -/
theorem Lane.cold_sound (hn : ∀ i, (nodes.get i).state ≠ .doubtful) : Lane.cold.Sound nodes hold where
  bound := by simp [Lane.BoundByState, Lane.bound, Lane.cold]
  coherent :=
    { band_unknown := by simp [Lane.cold, LaneState.uncounted]
      window_empty := fun _ => rfl
      zeroing_counting := nofun
      lit_pending := nofun
      band_pending := nofun
      raise_time := nofun
      unbound_clear := fun _ => ⟨rfl, rfl, rfl, rfl⟩ }
  feed := Lane.feedReported_of_clear rfl hn
  agrees := fun hu => absurd rfl hu

/-! ### Completion of a resolution -/

theorem listChanged_eq_false {changed : Table Bool 64} {old new : List CellRef} :
    listChanged changed old new = false ↔ old = new ∧ ∀ r ∈ old, changed.get r.slot = false := by
  simp only [listChanged, Bool.or_eq_false_iff, bne_eq_false_iff_eq, List.any_eq_false,
    Bool.not_eq_true, and_assoc]
  exact and_congr_right fun he => by simp [he]

/-- The lane with its new list, zeroing cancelled: the first steps of R29. -/
def Lane.relisted (new : List CellRef) (l : Lane) : Lane :=
  ({ l with cells := new.map (fun r => ⟨r, false, none⟩), window := [] } : Lane).cancelZeroing

theorem Lane.relisted_leaves (new : List CellRef) (l : Lane) :
    ({ l with cells := new.map (fun r => ⟨r, false, none⟩), window := [] } : Lane).Leaves
      (l.relisted new) := Lane.leaves_cancelZeroing _

theorem Lane.relisted_refs (new : List CellRef) (l : Lane) : (l.relisted new).refs = new := by
  rw [(l.relisted_leaves new).refs]
  simp [Lane.refs, Function.comp_def]

theorem Lane.install_eq (nodes : Table Node 64) (new : List CellRef) (l : Lane) :
    l.install nodes new =
      (if (l.relisted new).bound then (l.relisted new).enterBound nodes
      else if l.bound then (l.relisted new).enterUnbound
      else l.relisted new).setDoubt nodes := rfl

theorem Lane.judgeable_install (h : l.Sound nodes hold) (new : List CellRef) :
    l.Judgeable nodes' (l.install nodes' new) := by
  have hl := l.relisted_leaves new
  have hcoh : (l.relisted new).Coherent := hl.coherent { h.coherent with window_empty := fun _ => rfl }
  rw [Lane.install_eq]
  split_ifs with hnew hold
  · have he := (l.relisted new).enters_enterBound nodes'
    exact judgeable_setDoubt (he.boundByState hnew) (he.coherent hcoh) fun _ =>
      ⟨he.agree.trans hl.agree, he.refBand.trans hl.refBand, fun _ => he.state⟩
  · exact judgeable_setDoubt (Lane.enterUnbound_boundByState (by simpa using hnew)) hcoh.enterUnbound
      fun hs => absurd rfl hs
  · have hu : (l.relisted new).state = .unbound :=
      hl.unbound.2 (h.bound.unbound_iff.2 (by simpa using hold))
    exact judgeable_setDoubt (iff_of_false hnew (not_not.2 hu)) hcoh fun hs => absurd hu hs

theorem Lane.install_refs (nodes : Table Node 64) (new : List CellRef) (l : Lane) :
    (l.install nodes new).refs = new := by
  rw [Lane.install_eq]
  change Lane.refs (ite _ _ _) = new
  split_ifs
  · rw [((l.relisted new).enters_enterBound nodes).refs, Lane.relisted_refs]
  · rw [Lane.enterUnbound_refs, Lane.relisted_refs]
  · exact l.relisted_refs new

theorem Lane.Judgeable.takeOverflow (h : l.Judgeable nodes k) (flag : Bool) :
    l.Judgeable nodes (k.takeOverflow flag) :=
  ⟨h.bound, { h.coherent with }, h.feed, h.keeps⟩

/-- Completion of a resolution on a lane (R29): a lane whose list stays keeps its report, since no node of
its list is of a changed slot. -/
theorem Lane.judgeable_complete (h : l.Sound nodes hold) {changed : Table Bool 64}
    (hn : ∀ i, changed.get i = false → (nodes'.get i).state = (nodes.get i).state)
    (new : List CellRef) (flag : Bool) : l.Judgeable nodes' (l.complete nodes' changed new flag) := by
  unfold Lane.complete
  refine Lane.Judgeable.takeOverflow ?_ flag
  split_ifs with hc
  · exact judgeable_install h new
  · obtain ⟨-, hold⟩ := listChanged_eq_false.1 (by simpa using hc)
    exact ⟨h.bound, h.coherent, h.feed.of_states fun r hr => hn _ (hold r hr), .of_same rfl rfl Iff.rfl⟩

theorem Lane.complete_refs (nodes : Table Node 64) (changed : Table Bool 64) (new : List CellRef)
    (flag : Bool) (l : Lane) : (l.complete nodes changed new flag).refs = new := by
  unfold Lane.complete
  change Lane.refs (ite _ _ _) = new
  split_ifs with hc
  · exact l.install_refs nodes new
  · exact (listChanged_eq_false.1 (by simpa using hc)).1

end Sys2Proof.Machine
end

section
/-! Every step keeps the lane records consistent (O56): what a resolution gives each lane, the state seen from
its lanes, and the operations of nodes, readings, relays and visits. -/

namespace Sys2Proof.Machine

/-! ### Cells and the resolution (R19, R27) -/

/-- What the construction of the lists keeps: the cells of a list are visited cells that its lane captures,
and none stands there twice. -/
structure Building.Captured (image : Image) (visited : List CellRef) (b : Building) : Prop where
  captured : ∀ n, ∀ r ∈ b.lists.get n, r ∈ visited ∧ image.captor r = some n
  nodup : ∀ n, (b.lists.get n).Nodup

theorem Building.Captured.visit {image : Image} {visited : List CellRef} {b : Building} {r : CellRef}
    (h : b.Captured image visited) (hr : r ∉ visited) :
    (b.visit image r).Captured image (visited ++ [r]) := by
  have hold : ∀ n, ∀ x ∈ b.lists.get n, x ∈ visited ++ [r] ∧ image.captor x = some n := fun n x hx =>
    ⟨List.mem_append_left _ (h.captured n x hx).1, (h.captured n x hx).2⟩
  unfold Building.visit
  split
  · exact ⟨hold, h.nodup⟩
  · rename_i n hn
    split
    · refine ⟨fun m x hx => ?_, fun m => ?_⟩ <;> simp only [Table.get_modify] at *
      · split_ifs at hx with hm
        · subst hm
          rcases List.mem_append.1 hx with hx | hx
          · exact hold n x hx
          · rw [List.mem_singleton.1 hx]
            exact ⟨by simp, hn⟩
        · exact hold m x hx
      · split_ifs
        · refine (h.nodup m).append (List.nodup_singleton r) ?_
          rw [List.disjoint_singleton]
          exact fun hx => hr (h.captured m r hx).1
        · exact h.nodup m
    · exact ⟨hold, h.nodup⟩

theorem Building.Captured.foldl {image : Image} (cells : List CellRef) {visited : List CellRef}
    {b : Building} (h : b.Captured image visited) (hn : (visited ++ cells).Nodup) :
    (cells.foldl (Building.visit image) b).Captured image (visited ++ cells) := by
  induction cells generalizing visited b with
  | nil => simpa using h
  | cons r rest ih =>
    have hr : r ∉ visited := fun hm => (List.nodup_append.1 hn).2.2 r hm r (by simp) rfl
    rw [List.append_cons] at hn ⊢
    exact ih (h.visit hr) hn

/-- Each cell of an image is visited once (R27). -/
theorem Image.cells_nodup (image : Image) : image.cells.Nodup := by
  unfold Image.cells
  rw [List.nodup_flatMap]
  refine ⟨fun slot _ => ?_, (List.nodup_finRange 64).imp fun {i j} hij => ?_⟩
  · simp only
    split
    · refine ((List.nodup_finRange 4).filter _).map fun a b hab => ?_
      exact (CellRef.mk.inj hab).2
    · exact List.nodup_nil
  · simp only [Function.onFun]
    intro x hi hj
    have slot_of {k : Fin 64} (hx : x ∈ if (image.sweep.get k).occupied then
        ((List.finRange 4).filter (fun c => c.val < (image.sweep.get k).cellCount)).map (CellRef.mk k)
        else []) : x.slot = k := by
      split at hx
      · obtain ⟨c, -, rfl⟩ := List.mem_map.1 hx
        rfl
      · simp at hx
    exact hij ((slot_of hi).symm.trans (slot_of hj))

/-- A resolution gives each cell to one lane at most (R19, R27). -/
theorem resolve_assignedOnce (staged active : Image) : assignedOnce (resolve staged active).lists.get := by
  have h : (staged.cells.foldl (Building.visit staged) ⟨.const 128 [], .const 128 false⟩).Captured
      staged ([] ++ staged.cells) :=
    Building.Captured.foldl _ ⟨by simp, by simp⟩ (by simpa using staged.cells_nodup)
  refine ⟨h.nodup, fun n m hnm r hn hm => hnm ?_⟩
  exact Option.some.inj ((h.captured n r hn).2.symm.trans (h.captured m r hm).2)

/-! ### A state from its lanes -/

/-- Of the node records only their states count for a lane. -/
theorem Lane.Sound.of_states {l : Lane} {nodes nodes' : Table Node 64} {hold : Bool}
    (h : l.Sound nodes hold) (hs : ∀ r ∈ l.refs, (nodes'.get r.slot).state = (nodes.get r.slot).state) :
    l.Sound nodes' hold :=
  ⟨h.bound, h.coherent, h.feed.of_states hs, h.agrees⟩

theorem Node.settleDue_state (now : Clock) (b n : Node) : (Node.settleDue now b n).state = n.state := by
  unfold Node.settleDue
  split_ifs <;> rfl

theorem Lane.bayKey_refs {l : Lane} {now : Clock} : (l.bayKey now).refs = l.refs := by
  unfold Lane.bayKey
  simp only
  split_ifs <;> rfl

namespace State

variable {s t : State}

theorem lanesConsistent_iff : s.LanesConsistent ↔
    (∀ n, (s.lanes.get n).Sound s.nodes s.holding) ∧ s.CellsAssignedOnce := by
  have hhold : s.holding = false ↔ s.notice.holdDeadline = none := by simp [holding]
  constructor
  · rintro ⟨hc, hf, ha, hcells⟩
    refine ⟨fun n => ?_, hcells⟩
    obtain ⟨hb, hcoh⟩ := Lane.consistent_iff.1 (hc n)
    refine ⟨hb, hcoh, Lane.feedReported_iff.2 (hf n), fun hu hfr => ?_⟩
    obtain ⟨hr, hh, hacq⟩ := Lane.frozen_eq_false.1 hfr
    exact ha n hu hacq hr (hhold.1 hh)
  · rintro ⟨hs, hcells⟩
    exact ⟨fun n => Lane.consistent_iff.2 ⟨(hs n).bound, (hs n).coherent⟩,
      fun n => Lane.feedReported_iff.1 (hs n).feed,
      fun n hu hacq hr hh => (hs n).agrees hu (Lane.frozen_eq_false.2 ⟨hr, hhold.2 hh, hacq⟩), hcells⟩

namespace LanesConsistent

theorem sound (h : s.LanesConsistent) (n : Fin 128) : (s.lanes.get n).Sound s.nodes s.holding :=
  (lanesConsistent_iff.1 h).1 n

/-- A state of sound lanes from the lists they hold and what a resolution in flight holds. -/
theorem of_lists {lists : Fin 128 → List CellRef} (ha : assignedOnce lists)
    (hl : ∀ n, (t.lanes.get n).Sound t.nodes t.holding) (hr : ∀ n, (t.lanes.get n).refs = lists n)
    (he : ∀ tag r, t.mgmt.engine = .committing tag r → assignedOnce r.lists.get) :
    t.LanesConsistent := by
  have hr' : (fun n => (t.lanes.get n).cells.map LaneCell.ref) = lists := funext hr
  exact lanesConsistent_iff.2 ⟨hl, hr' ▸ ha, he⟩

/-- A state whose lanes are sound, hold the cells they held, and whose engine is as it was. -/
theorem of_lanes (h : s.LanesConsistent) (hl : ∀ n, (t.lanes.get n).Sound t.nodes t.holding)
    (hr : ∀ n, (t.lanes.get n).refs = (s.lanes.get n).refs) (he : t.mgmt.engine = s.mgmt.engine) :
    t.LanesConsistent := by
  obtain ⟨-, hcells, hflight⟩ := lanesConsistent_iff.1 h
  exact of_lists hcells hl hr (he ▸ hflight)

/-- A state that differs in nothing the consistency of lanes speaks of. -/
theorem of_view (h : s.LanesConsistent) (hl : t.lanes = s.lanes) (hn : t.nodes = s.nodes)
    (hh : t.notice.holdDeadline = s.notice.holdDeadline) (he : t.mgmt.engine = s.mgmt.engine) :
    t.LanesConsistent := by
  have hold : t.holding = s.holding := by simp [holding, hh]
  exact h.of_lanes (by rw [hl, hn, hold]; exact h.sound) (by simp [hl]) he

theorem ite {c : Prop} [Decidable c] (hs : s.LanesConsistent) (ht : t.LanesConsistent) :
    (if c then s else t).LanesConsistent := by
  split_ifs
  · exact hs
  · exact ht

/-- Every lane changed by an event that keeps it sound. -/
theorem mapLanes (h : s.LanesConsistent) {f : Lane → Lane}
    (hf : ∀ l : Lane, l.Sound s.nodes s.holding → (f l).Sound s.nodes s.holding)
    (hr : ∀ l : Lane, (f l).refs = l.refs) : (s.mapLanes f).LanesConsistent :=
  h.of_lanes (fun n => by rw [mapLanes_lanes, Table.get_map]; exact hf _ (h.sound n))
    (fun n => by rw [mapLanes_lanes, Table.get_map]; exact hr _) rfl

/-- One lane changed by an event that keeps it sound. -/
theorem modifyLane (h : s.LanesConsistent) (n : Fin 128) {f : Lane → Lane}
    (hf : (s.lanes.get n).Sound s.nodes s.holding → (f (s.lanes.get n)).Sound s.nodes s.holding)
    (hr : (f (s.lanes.get n)).refs = (s.lanes.get n).refs) : (s.modifyLane n f).LanesConsistent := by
  refine h.of_lanes (fun m => ?_) (fun m => ?_) rfl <;> rw [modifyLane_lanes, Table.get_modify]
  · split_ifs with hm
    · exact hm ▸ hf (h.sound n)
    · exact h.sound m
  · split_ifs with hm
    · exact hm ▸ hr
    · rfl

/-- An event that needs no judgement, on every lane. -/
theorem mapLanes_quiet (h : s.LanesConsistent) {f : Lane → Lane} (hf : ∀ l : Lane, l.Quiet (f l)) :
    (s.mapLanes f).LanesConsistent := h.mapLanes (fun l => (hf l).sound) fun l => (hf l).refs

/-- An event that needs no judgement, on one lane. -/
theorem modifyLane_quiet (h : s.LanesConsistent) (n : Fin 128) {f : Lane → Lane}
    (hf : (s.lanes.get n).Quiet (f (s.lanes.get n))) : (s.modifyLane n f).LanesConsistent :=
  h.modifyLane n hf.sound hf.refs

/-- A node record changed but for its state. -/
theorem setNode (h : s.LanesConsistent) {i : Fin 64} {k : Node}
    (hk : k.state = (s.nodes.get i).state) : (s.setNode i k).LanesConsistent :=
  h.of_lanes (fun n => (h.sound n).of_states fun r _ => by
    rw [setNode_nodes, Table.get_set]
    split_ifs with hj
    · exact hj ▸ hk
    · rfl) (fun _ => rfl) rfl

/-! ### The closing of an event, the queue, the beacons and time -/

theorem close (h : t.LanesConsistent) : (State.close s t).LanesConsistent := by
  have hold : (State.close s t).holding = t.holding :=
    congrArg (fun u => u.holdDeadline.isSome) (close_notice s t)
  refine h.of_lanes (fun n => ?_) (fun n => ?_) (by simp)
  · rw [close_lane, hold]
    exact (Lane.quiet_settleDue _ _ _).sound
      ((h.sound n).of_states fun _ _ => by rw [close_node, Node.settleDue_state])
  · rw [close_lane]
    exact (Lane.quiet_settleDue _ _ _).refs

theorem refreshBeacons (h : s.LanesConsistent) : s.refreshBeacons.LanesConsistent :=
  h.of_view rfl rfl rfl rfl

theorem of_sameButQueue (h : s.LanesConsistent) (hq : s.SameButQueue t) : t.LanesConsistent := by
  unfold SameButQueue at hq
  rw [hq]
  exact h.of_view rfl rfl rfl rfl

theorem elapse (h : s.LanesConsistent) (d : Nat) : (s.elapse d).LanesConsistent :=
  h.of_view rfl rfl rfl rfl

theorem setSweep (h : s.LanesConsistent) (g : Segment) (e : SweepEngine) :
    (s.setSweep g e).LanesConsistent :=
  h.of_view (by simp) (by simp) (by simp) (by simp)

/-! ### Aisle hold -/

/-- While aisle hold is in force every lane is frozen. -/
theorem startHold (h : s.LanesConsistent) : s.startHold.LanesConsistent :=
  h.of_lanes (fun n => ⟨(h.sound n).bound, (h.sound n).coherent, (h.sound n).feed, fun _ hf =>
    absurd (Lane.frozen_eq_false.1 hf).2.1 (by simp [State.startHold, holding])⟩) (fun _ => rfl) rfl

theorem endHold (h : s.LanesConsistent) : s.endHold.LanesConsistent := by
  unfold State.endHold
  split_ifs with hh
  · refine close (h.of_lanes (fun n => ?_) (fun n => ?_) rfl)
    · simp only [Table.get_map]
      exact (Lane.Moves.refl _).judge (hh ▸ h.sound n)
    · simp only [Table.get_map]
      exact Lane.judge_sameFeed.refs
  · exact h

theorem toggleHold (h : s.LanesConsistent) : s.toggleHold.LanesConsistent := by
  unfold State.toggleHold
  split
  · exact h.endHold
  · exact h.startHold

/-! ### Node health -/

/-- A node's record changes, and what a change of its state reports (R131). -/
theorem reportNode (h : s.LanesConsistent) (slot : Fin 64) (k : Node) :
    (s.reportNode slot k).LanesConsistent := by
  have hstate : ∀ i, ((s.reportNode slot k).nodes.get i).state =
      if slot = i then k.state else (s.nodes.get i).state := fun i => by
    rw [reportNode_node]
    split_ifs <;> rfl
  have hold : (s.reportNode slot k).holding = s.holding := by simp [holding]
  refine h.of_lanes (fun n => ?_) (fun n => ?_) (by simp) <;> rw [reportNode_lane]
  · rw [hold]
    split_ifs with hfed hlost
    · exact ((Lane.judgeable_reported (h.sound n) true).sound (h.sound n)).of_states fun r _ => by
        rw [hstate, Table.get_set]
        split_ifs <;> rfl
    · exact ((Lane.judgeable_reported (h.sound n) false).sound (h.sound n)).of_states fun r _ => by
        rw [hstate, Table.get_set]
        split_ifs <;> rfl
    · refine (h.sound n).of_states fun r hr => ?_
      rw [hstate]
      split_ifs with hslot
      · by_contra hne
        refine hfed ⟨hslot ▸ hne, ?_⟩
        obtain ⟨c, hc, rfl⟩ := List.mem_map.1 hr
        exact List.any_eq_true.2 ⟨c, hc, by simp [hslot]⟩
      · rfl
  · split_ifs with hfed hlost
    · exact Lane.judge_sameFeed.refs.trans (Lane.moves_nodeLost _).refs
    · exact Lane.judge_sameFeed.refs
    · rfl

theorem nodeOutcome (h : s.LanesConsistent) (slot : Fin 64) (o : VisitOutcome) :
    (s.nodeOutcome slot o).LanesConsistent := h.reportNode slot _

theorem releaseNode (h : s.LanesConsistent) (slot : Fin 64) : (s.releaseNode slot).LanesConsistent := by
  unfold State.releaseNode
  simp only
  split_ifs
  · exact h.reportNode slot _
  · exact h.setNode rfl
  · exact h

/-! ### Readings and relays -/

theorem bayKeyEvent (h : s.LanesConsistent) (slot : Fin 64) : (s.bayKeyEvent slot).LanesConsistent := by
  refine h.mapLanes (fun l hl => ?_) (fun l => ?_)
  · split_ifs
    · exact hl.bayKey
    · exact hl
  · split_ifs
    · exact Lane.bayKey_refs
    · rfl

theorem capture (h : s.LanesConsistent) (slot : Fin 64) (cells : List RawCell) :
    (s.capture slot cells).LanesConsistent :=
  h.mapLanes (fun _ hl => (Lane.moves_capture _ _ _ _ _).judge hl)
    (fun _ => Lane.judge_sameFeed.refs.trans (Lane.moves_capture _ _ _ _ _).refs)

theorem endVisit (h : s.LanesConsistent) (g : Segment) (v : Visit) : (s.endVisit g v).LanesConsistent :=
  h.setSweep g _

theorem relayStep (h : s.LanesConsistent) (g : Segment) (v : Visit) :
    (s.relayStep g v).LanesConsistent := by
  unfold State.relayStep
  split
  · split_ifs
    · exact h.endVisit g v
    · exact h.setSweep g _
  · exact h.endVisit g v

theorem goodReading (h : s.LanesConsistent) (g : Segment) (v : Visit) (r : Reading) :
    (s.goodReading g v r).LanesConsistent := by
  unfold State.goodReading
  have sequenced : LanesConsistent { s.nodeOutcome v.slot .good with
      sequences := (s.nodeOutcome v.slot .good).sequences.set v.slot (some r.sequence) } :=
    (h.nodeOutcome v.slot .good).of_view rfl rfl rfl rfl
  have keyed {a : State} (ha : a.LanesConsistent) (c : Bool) :
      (if c then (a.bayKeyEvent v.slot).refreshBeacons else a).LanesConsistent :=
    (ha.bayKeyEvent v.slot).refreshBeacons.ite ha
  have captured {a : State} (ha : a.LanesConsistent) (c : Bool) :
      (if c then a.capture v.slot r.cells else a).LanesConsistent := (ha.capture v.slot r.cells).ite ha
  refine relayStep ?_ g v
  exact ite ((captured (keyed sequenced _) _).of_view rfl rfl rfl rfl) (captured (keyed sequenced _) _)

theorem endPoll (h : s.LanesConsistent) (g : Segment) (v : Visit) (o : Except VisitOutcome Reading) :
    (s.endPoll g v o).LanesConsistent := by
  unfold State.endPoll
  split_ifs
  · exact h.endVisit g v
  · split
    · exact h.goodReading g v _
    · exact (h.nodeOutcome v.slot _).endVisit g v

theorem answerRelay (h : s.LanesConsistent) (g : Segment) (v : Visit) (n : Nat)
    (o : Except VisitOutcome Bool) : (s.answerRelay g v n o).LanesConsistent := by
  unfold State.answerRelay
  split
  · exact h
  · split_ifs
    · refine mapLanes_quiet (h.setSweep g _) fun l => ?_
      split_ifs
      · exact l.quiet_disturb
      · exact .refl l
    · exact h.setSweep g _

theorem endRelay (h : s.LanesConsistent) (g : Segment) (v : Visit) (n : Nat)
    (o : Except VisitOutcome Bool) : (s.endRelay g v n o).LanesConsistent := by
  unfold State.endRelay
  split_ifs
  · exact h.endVisit g v
  · exact ((h.answerRelay g v n o).nodeOutcome v.slot _).endVisit g v

theorem endMissed (h : s.LanesConsistent) (g : Segment) : (s.endMissed g).LanesConsistent := by
  unfold State.endMissed
  split
  · exact h
  · split
    · exact h.endPoll g _ _
    · exact h.endRelay g _ _ _

end LanesConsistent
end State
end Sys2Proof.Machine
end

section
/-! Every step keeps the lane records consistent, continued: completion and the starts, the requests, the
backbone, the key and the deadlines, and from them each command and the step (O56). -/

namespace Sys2Proof.Machine

namespace State

variable {s t : State}

namespace LanesConsistent

/-- The engine changes; what a resolution in flight holds gives each cell to one lane. -/
theorem withEngine (h : s.LanesConsistent) (e : EngineState)
    (he : ∀ tag r, e = .committing tag r → assignedOnce r.lists.get) :
    ({ s with mgmt := { s.mgmt with engine := e } } : State).LanesConsistent := by
  obtain ⟨hs, hcells, -⟩ := lanesConsistent_iff.1 h
  exact lanesConsistent_iff.2 ⟨hs, hcells, he⟩

theorem inFlight (h : s.LanesConsistent) {tag : Byte} {r : Resolution}
    (he : s.mgmt.engine = .committing tag r) : assignedOnce r.lists.get := by
  obtain ⟨-, -, hflight⟩ := lanesConsistent_iff.1 h
  exact hflight tag r he

/-- The Notice Unit but for aisle hold is no lane's. -/
theorem withNotice (h : s.LanesConsistent) (u : NoticeUnit) (hu : u.holdDeadline = s.notice.holdDeadline) :
    ({ s with notice := u } : State).LanesConsistent := h.of_view rfl rfl hu rfl

theorem admitDeferred (h : s.LanesConsistent) : s.admitDeferred.LanesConsistent :=
  h.of_sameButQueue (admitDeferred_frame s)

/-! ### Completion and starts -/

/-- A completed resolution is installed (R28, R29). -/
theorem installResolution (h : s.LanesConsistent) {r : Resolution} (hr : assignedOnce r.lists.get) :
    (s.installResolution r).LanesConsistent := by
  refine close (of_lists hr (fun n => ?_) (fun n => ?_) fun _ _ => h.inFlight) <;> rw [Table.get_build]
  · refine (Lane.judgeable_complete (h.sound n) (fun i hi => ?_) _ _).sound (h.sound n)
    simp [changeSlots, hi]
  · exact Lane.judge_sameFeed.refs.trans (Lane.complete_refs _ _ _ _ _)

theorem rebuildQueue (h : s.LanesConsistent) : s.rebuildQueue.LanesConsistent := by
  refine admitDeferred ?_
  exact h.withNotice _ rfl

theorem warmStart (h : s.LanesConsistent) : s.warmStart.LanesConsistent := by
  obtain ⟨-, hcells, -⟩ := lanesConsistent_iff.1 h
  refine (rebuildQueue (of_lists hcells (fun n => ?_) (fun n => ?_) fun tag r he => ?_)).refreshBeacons
  · rw [Table.get_map]
    exact (Lane.quiet_settleDue _ _ _).sound ((h.sound n).warm fun i => by simp [Node.reset])
  · rw [Table.get_map]
    exact (Lane.quiet_settleDue _ _ _).refs.trans (Lane.warm_refs _)
  · have hidle : EngineState.idle = .committing tag r := he
    cases hidle

/-- The state after reset: no lane holds a cell, no node is DOUBTFUL, nothing is in flight. -/
theorem reset : State.reset.LanesConsistent := by
  refine of_lists (lists := fun _ => []) ⟨by simp, by simp⟩ (fun n => ?_) (fun n => ?_)
    fun tag r he => by simp [State.reset, Management.cold] at he
  · simp only [State.reset, Table.get_const]
    exact Lane.cold_sound fun i => by simp [Node.cold]
  · simp [State.reset, Lane.cold, Lane.refs]

theorem coldStart (s : State) : s.coldStart.LanesConsistent :=
  reset.of_view rfl rfl rfl rfl

/-! ### Requests -/

theorem storeSettings (h : s.LanesConsistent) (w : Settings) : (s.storeSettings w).LanesConsistent :=
  h.of_view rfl rfl rfl rfl

theorem acknowledgeAll (h : s.LanesConsistent) (pairs : List (Fin 128 × Band)) :
    (s.acknowledgeAll pairs).LanesConsistent := by
  unfold State.acknowledgeAll
  induction pairs generalizing s with
  | nil => exact h
  | cons x rest ih =>
    exact ih (h.modifyLane x.1 (fun hl => hl.acknowledge x.2) (Lane.acknowledge_refs _ _ _))

theorem storeGroup (h : s.LanesConsistent) (n : Fin 16) (g : Group) :
    (s.storeGroup n g).LanesConsistent := by
  have stored : LanesConsistent { s with notice := { s.notice with
      groups := s.notice.groups.set n g } } := h.of_view rfl rfl rfl rfl
  refine ite (mapLanes_quiet stored fun l => ?_) stored
  split_ifs
  · exact l.quiet_announce
  · exact .refl l

theorem beginCommit (h : s.LanesConsistent) (tag : Byte) : (s.beginCommit tag).LanesConsistent := by
  refine h.withEngine _ fun tag' r hr => ?_
  obtain ⟨-, rfl⟩ := EngineState.committing.inj hr
  exact resolve_assignedOnce _ _

theorem beginRestart (h : s.LanesConsistent) : s.beginRestart.LanesConsistent :=
  h.withEngine _ nofun

/-- A staged image is no lane's. -/
theorem withStaged (h : s.LanesConsistent) (image : Image) :
    ({ s with staged := image } : State).LanesConsistent := h.of_view rfl rfl rfl rfl

theorem requestWriteStation (h : s.LanesConsistent) (p : List Byte) :
    (s.requestWriteStation p).state.LanesConsistent := by
  unfold State.requestWriteStation
  split
  · exact h
  · exact h.storeSettings _

theorem requestNoticeOutput (h : s.LanesConsistent) (p : List Byte) :
    (s.requestNoticeOutput p).state.LanesConsistent := by
  unfold State.requestNoticeOutput
  split
  · exact h
  · exact (h.of_view rfl rfl rfl rfl).refreshBeacons

theorem requestWriteCapture (h : s.LanesConsistent) (p : List Byte) :
    (s.requestWriteCapture p).state.LanesConsistent := by
  unfold State.requestWriteCapture
  split
  · split
    · exact h.withStaged _
    · exact h
  · exact h

theorem requestWriteMask (h : s.LanesConsistent) (p : List Byte) :
    (s.requestWriteMask p).state.LanesConsistent := by
  unfold State.requestWriteMask
  split
  · exact h
  · exact h
  · exact h.withStaged _

theorem requestWriteCalibration (h : s.LanesConsistent) (p : List Byte) :
    (s.requestWriteCalibration p).state.LanesConsistent := by
  unfold State.requestWriteCalibration
  split
  · exact h
  · split
    · exact h
    · exact h.withStaged _

theorem requestLoadSweepList (h : s.LanesConsistent) (p : List Byte) :
    (s.requestLoadSweepList p).state.LanesConsistent := by
  unfold State.requestLoadSweepList
  simp only
  split
  · exact h
  · split_ifs
    · exact h
    · exact h
    · exact h
    · exact h.withStaged _

theorem requestWriteLane (h : s.LanesConsistent) (p : List Byte) :
    (s.requestWriteLane p).state.LanesConsistent := by
  unfold State.requestWriteLane
  simp only
  split
  · exact h
  · split_ifs
    · exact h
    · split
      · exact h
      · exact close (h.modifyLane _ (fun hl => (Lane.judgeable_rewrite hl _).sound hl)
          (Lane.judge_sameFeed.refs.trans (Lane.rewrite_refs _ _ _)))

theorem requestReadLane (h : s.LanesConsistent) (p : List Byte) :
    (s.requestReadLane p).state.LanesConsistent := by
  unfold State.requestReadLane
  split
  · exact h
  · split
    · exact h
    · exact h

theorem requestZeroLane (h : s.LanesConsistent) (p : List Byte) :
    (s.requestZeroLane p).state.LanesConsistent := by
  unfold State.requestZeroLane
  split
  · exact h
  · rename_i n _
    have begins (hc : (s.lanes.get n).state.counting = true) :
        (s.modifyLane n (Lane.beginZeroing s.now)).LanesConsistent :=
      h.modifyLane_quiet n (Lane.quiet_beginZeroing hc)
    split
    · exact h
    · exact h
    all_goals
      rename_i hs
      exact begins (by rw [hs]; rfl)

theorem requestAcknowledge (h : s.LanesConsistent) (p : List Byte) :
    (s.requestAcknowledge p).state.LanesConsistent := by
  unfold State.requestAcknowledge
  split
  · exact h
  · exact close (h.acknowledgeAll _)

theorem requestWriteGroup (h : s.LanesConsistent) (p : List Byte) :
    (s.requestWriteGroup p).state.LanesConsistent := by
  unfold State.requestWriteGroup
  split
  · exact h
  · split
    · exact close (h.storeGroup _ _)
    · exact h

theorem requestReadNode (h : s.LanesConsistent) (p : List Byte) :
    (s.requestReadNode p).state.LanesConsistent := by
  unfold State.requestReadNode
  split
  · exact h
  · exact h.setNode rfl

theorem requestReleaseNode (h : s.LanesConsistent) (p : List Byte) :
    (s.requestReleaseNode p).state.LanesConsistent := by
  unfold State.requestReleaseNode
  split
  · exact h
  · exact close (h.releaseNode _)

theorem requestRelay (h : s.LanesConsistent) (tag : Byte) (p : List Byte) :
    (s.requestRelay tag p).state.LanesConsistent := by
  unfold State.requestRelay
  simp only
  split
  · exact h
  · split
    · exact h
    · split
      · exact h
      · split
        · exact h
        · exact (h.setSweep _ _).of_view rfl rfl rfl rfl

/-- An immediate request, whatever its payload. -/
theorem perform (h : s.LanesConsistent) (code : RequestCode) (tag : Byte) (p : List Byte) :
    (s.perform code tag p).state.LanesConsistent := by
  cases code with
  | identify => exact h
  | readStatus => exact h.of_view rfl rfl rfl rfl
  | writeStation => exact h.requestWriteStation p
  | noticeOutput => exact h.requestNoticeOutput p
  | writeCapture => exact h.requestWriteCapture p
  | writeMask => exact h.requestWriteMask p
  | writeCalibration => exact h.requestWriteCalibration p
  | loadSweepList => exact h.requestLoadSweepList p
  | commit => exact h.beginCommit tag
  | discard => exact h.withStaged _
  | writeLane => exact h.requestWriteLane p
  | readLane => exact h.requestReadLane p
  | zeroLane => exact h.requestZeroLane p
  | acknowledge => exact h.requestAcknowledge p
  | writeGroup => exact h.requestWriteGroup p
  | readNode => exact h.requestReadNode p
  | releaseNode => exact h.requestReleaseNode p
  | relay => exact h.requestRelay tag p
  | aisleHold => exact h.startHold
  | aisleRelease => exact h.endHold
  | restart => exact h.beginRestart

theorem answer (h : s.LanesConsistent) (code : RequestCode) (tag : Byte) (p : List Byte) :
    (s.answer code tag p).state.LanesConsistent := by
  unfold State.answer
  split
  · exact h.perform code tag p
  · exact h

theorem putReply (h : s.LanesConsistent) (tag code : Byte) (r : Result) (fields : List Byte) :
    (s.putReply tag code r fields).LanesConsistent := h.of_view rfl rfl rfl rfl

theorem withIntake (h : s.LanesConsistent) (rs : List Request) :
    ({ s with mgmt := { s.mgmt with intake := rs } } : State).LanesConsistent :=
  h.of_view rfl rfl rfl rfl

theorem execute (h : s.LanesConsistent) (r : Request) : (s.execute r).LanesConsistent := by
  unfold State.execute
  split
  · unfold executeBroadcast
    split
    · exact h
    · split
      · exact h
      · split
        · exact h.answer _ _ _
        · exact h
  · unfold executeUnicast
    split
    · exact h.putReply _ _ _ _
    · split
      · exact h.putReply _ _ _ _
      · split
        · exact h.beginCommit _
        · exact (h.answer _ _ _).putReply _ _ _ _

theorem takeUpTo (h : s.LanesConsistent) (fuel : Nat) : (s.takeUpTo fuel).LanesConsistent := by
  induction fuel generalizing s with
  | zero => exact h
  | succ fuel ih =>
    unfold State.takeUpTo
    split
    · split
      · exact h
      · exact ih ((h.withIntake _).execute _)
    · exact h

theorem takeRequests (h : s.LanesConsistent) : s.takeRequests.LanesConsistent := h.takeUpTo _

theorem deliver (h : s.LanesConsistent) (r : Request) : (s.deliver r).LanesConsistent := by
  unfold State.deliver
  split
  · exact (h.withIntake _).takeRequests
  · exact h.of_view rfl rfl rfl rfl

theorem submit (h : s.LanesConsistent) (r : Request) : (s.submit r).LanesConsistent := by
  unfold State.submit
  split
  · exact h.deliver r
  · exact h

/-! ### The backbone -/

/-- The Backbone Switch but for the clock's deadlines is no lane's. -/
theorem withBackbone (h : s.LanesConsistent) (b : Backbone) :
    ({ s with backbone := b } : State).LanesConsistent := h.of_view rfl rfl rfl rfl

theorem forwardDown (h : s.LanesConsistent) (f : Frame) : (s.forwardDown f).LanesConsistent :=
  ite (h.withBackbone _) (h.withBackbone _)

theorem forwardUp (h : s.LanesConsistent) (f : Frame) : (s.forwardUp f).LanesConsistent :=
  ite (h.withBackbone _) (h.withBackbone _)

theorem buFault (h : s.LanesConsistent) : s.buFault.LanesConsistent := h.withBackbone _

theorem bdFault (h : s.LanesConsistent) : s.bdFault.LanesConsistent := h.withBackbone _

/-- The station clock is set, and every deadline it then has reached is taken (R150). -/
theorem setClock (h : s.LanesConsistent) (value : Clock) : (s.setClock value).LanesConsistent := by
  unfold State.setClock
  split
  · exact h
  · refine close (h.of_lanes (fun n => ?_) (fun n => ?_) rfl) <;> simp only [Table.get_map]
    · exact (Lane.leaves_takeDeadlines value _).moves.judge (h.sound n)
    · exact Lane.judge_sameFeed.refs.trans (Lane.leaves_takeDeadlines value _).refs

theorem routeUnassigned (h : s.LanesConsistent) (f : Frame) : (s.routeUnassigned f).LanesConsistent := by
  unfold State.routeUnassigned
  simp only
  split
  · split
    · exact (h.withBackbone _).forwardDown _
    · exact h.forwardDown f
  · exact h.forwardDown f

theorem routeOwn (h : s.LanesConsistent) (f : Frame) : (s.routeOwn f).LanesConsistent :=
  ite (h.deliver _) (ite (ite (h.setClock _) h.buFault) h.buFault)

theorem routeAll (h : s.LanesConsistent) (a : BitVec 16) (f : Frame) :
    (s.routeAll a f).LanesConsistent :=
  ite ((h.deliver _).forwardDown f)
    (ite ((ite (h.setClock _) h.buFault).forwardDown f)
      (ite (ite (h.forwardDown _) (h.buFault.forwardDown f)) (h.forwardDown f)))

theorem routeDown (h : s.LanesConsistent) (f : Frame) : (s.routeDown f).LanesConsistent := by
  unfold State.routeDown
  split
  · exact h.routeUnassigned f
  · exact ite (h.routeAll _ f) (ite (h.routeOwn f) (h.forwardDown f))

theorem sendLocal (h : s.LanesConsistent) (f : Frame) : (s.sendLocal f).LanesConsistent :=
  h.withBackbone _

theorem takeReply (h : s.LanesConsistent) (r : Reply) : (s.takeReply r).LanesConsistent := by
  have sent : LanesConsistent (({ s with mgmt := { s.mgmt with reply := none } } : State).sendLocal
      (s.ownFrame kindReply r.tag r.payload)) := h.of_view rfl rfl rfl rfl
  unfold State.takeReply
  simp only
  split
  · exact sent.warmStart
  · exact sent.takeRequests
  · exact sent.takeRequests

theorem clearKinds (h : s.LanesConsistent) (x : Subject) : (s.clearKinds x).LanesConsistent := by
  cases x with
  | lane n => exact h.modifyLane_quiet n (Lane.quiet_taken _)
  | node i => exact h.setNode rfl

theorem takeNotice (h : s.LanesConsistent) {payload : List Byte}
    (ht : s.takeNotice = some (payload, t)) : t.LanesConsistent := by
  unfold State.takeNotice at ht
  split at ht
  · cases ht
  · obtain ⟨-, rfl⟩ := Prod.mk.inj (Option.some.inj ht)
    refine admitDeferred ?_
    exact (h.clearKinds _).withNotice _ rfl

theorem takeLocal (h : s.LanesConsistent) (ht : s.takeLocal = some t) : t.LanesConsistent := by
  unfold State.takeLocal at ht
  split at ht
  · cases ht
  · split at ht
    · cases ht
      exact h.takeReply _
    · split at ht
      · cases ht
        exact (h.setSweep _ _).sendLocal _
      · split at ht
        · rename_i hn
          cases ht
          split at hn
          · exact (h.takeNotice hn).sendLocal _
          · cases hn
        · obtain ⟨payload, -, rfl⟩ := Option.map_eq_some_iff.1 ht
          exact h.withBackbone _

theorem chooseUpstream (h : s.LanesConsistent) : s.chooseUpstream.LanesConsistent := by
  have offered {u : State} (hu : u.LanesConsistent) : (s.takeLocal.getD u).LanesConsistent := by
    cases ht : s.takeLocal with
    | none => exact hu
    | some t => exact h.takeLocal ht
  unfold State.chooseUpstream
  split
  · exact offered h
  · exact ite (h.withBackbone _) (offered (h.withBackbone _))

/-! ### The key and the deadlines -/

theorem shortPress (h : s.LanesConsistent) : s.shortPress.LanesConsistent :=
  (h.mapLanes_quiet Lane.quiet_unlit).refreshBeacons

theorem takeKey (h : s.LanesConsistent) : s.takeKey.LanesConsistent := by
  have settled := h.withNotice { s.notice with debounce := none } rfl
  unfold State.takeKey
  simp only
  split
  · split
    · exact settled.withNotice _ rfl
    · exact settled
    · exact settled
  · split
    · exact (settled.withNotice _ rfl).shortPress
    · exact settled.withNotice _ rfl
    · exact settled

end LanesConsistent

/-! ### The commands -/

/-- What a command answers is a state with consistent lanes, if anything. -/
def AnswersConsistent (o : Next) : Prop := ∀ t, o = .next t → t.LanesConsistent

theorem AnswersConsistent.next (h : s.LanesConsistent) : AnswersConsistent (.next s) := by
  intro t ht
  cases ht
  exact h

end State

open State State.LanesConsistent

theorem execResolutionCompletes_consistent {s : State} (h : s.LanesConsistent) :
    AnswersConsistent (execResolutionCompletes s) := by
  unfold execResolutionCompletes
  split
  · rename_i he
    exact .next (((h.installResolution (h.inFlight he)).withEngine .idle nofun).putReply _ _ _ _)
  · exact .next h
  · exact .next h

theorem execZeroingDeadlineReached_consistent {s : State} (h : s.LanesConsistent) (n : Fin 128) :
    AnswersConsistent (execZeroingDeadlineReached n s) := by
  unfold execZeroingDeadlineReached
  split
  · exact .next h
  · refine .next (close ?_)
    exact (h.elapse _).modifyLane_quiet n (Lane.quiet_endZeroing _ _)

theorem execReplenishDeadlineReached_consistent {s : State} (h : s.LanesConsistent) (n : Fin 128) :
    AnswersConsistent (execReplenishDeadlineReached n s) := by
  unfold execReplenishDeadlineReached
  split
  · exact .next h
  · refine .next (close ?_)
    exact (h.elapse _).modifyLane n (Lane.leaves_clearReplenish _).moves.judge Lane.judge_sameFeed.refs

theorem execHoldDeadlineReached_consistent {s : State} (h : s.LanesConsistent) :
    AnswersConsistent (execHoldDeadlineReached s) := by
  unfold execHoldDeadlineReached
  split
  · exact .next h
  · exact .next (h.elapse _).endHold

theorem execNoticeSpacingElapsed_consistent {s : State} (h : s.LanesConsistent) :
    AnswersConsistent (execNoticeSpacingElapsed s) := by
  unfold execNoticeSpacingElapsed
  split
  · exact .next h
  · exact .next (h.elapse _)

theorem execBeaconPhaseToggle_consistent {s : State} (h : s.LanesConsistent) (b : Fin 4) :
    AnswersConsistent (execBeaconPhaseToggle b s) := by
  unfold execBeaconPhaseToggle
  split
  · refine .next ?_
    exact (h.elapse _).withNotice _ rfl
  · exact .next h
  · exact .next h

theorem execAkeyLevelChange_consistent {s : State} (h : s.LanesConsistent) (low : Bool) :
    AnswersConsistent (execAkeyLevelChange low s) := by
  unfold execAkeyLevelChange
  split
  · exact .next h
  · exact .next (h.withNotice _ rfl)

theorem execDebounceExpiry_consistent {s : State} (h : s.LanesConsistent) :
    AnswersConsistent (execDebounceExpiry s) := by
  unfold execDebounceExpiry
  split
  · exact .next h
  · exact .next (h.elapse _).takeKey

theorem execHoldTimerExpiry_consistent {s : State} (h : s.LanesConsistent) :
    AnswersConsistent (execHoldTimerExpiry s) := by
  unfold execHoldTimerExpiry
  split
  · refine .next (toggleHold ?_)
    exact (h.elapse _).withNotice _ rfl
  · exact .next h
  · exact .next h

theorem execSweepTimerExpiry_consistent {s : State} (h : s.LanesConsistent) (g : Segment) :
    AnswersConsistent (execSweepTimerExpiry g s) := by
  unfold execSweepTimerExpiry
  simp only
  split
  · split
    · exact .next h
    · exact .next (h.setSweep g _)
  · exact .next ((h.elapse _).setSweep g _)

theorem execShelfTransmissionEnd_consistent {s : State} (h : s.LanesConsistent) (g : Segment) :
    AnswersConsistent (execShelfTransmissionEnd g s) := by
  unfold execShelfTransmissionEnd
  split
  · exact .next h
  · split
    · exact .next (h.setSweep g _)
    · exact .next h
    · exact .next h
    · exact .next h

theorem execReplyWindowExpiry_consistent {s : State} (h : s.LanesConsistent) (g : Segment) :
    AnswersConsistent (execReplyWindowExpiry g s) := by
  unfold execReplyWindowExpiry
  split
  · exact .next h
  · split
    · exact .next ((h.elapse _).endMissed g).close
    · exact .next h
    · exact .next h
    · exact .next h

theorem execReadingReceived_consistent {s : State} (h : s.LanesConsistent) (g : Segment)
    (bytes : List Byte) : AnswersConsistent (execReadingReceived g bytes s) := by
  unfold execReadingReceived
  split
  · exact .next h
  · split
    · exact .next (h.endPoll g _ _).close
    · exact .next h

theorem execRelayAnswerReceived_consistent {s : State} (h : s.LanesConsistent) (g : Segment)
    (bytes : List Byte) : AnswersConsistent (execRelayAnswerReceived g bytes s) := by
  unfold execRelayAnswerReceived
  split
  · exact .next h
  · split
    · exact .next h
    · split
      · exact .next (h.endRelay g _ _ _).close
      · exact .next h

theorem execShelfFrameDiscarded_consistent {s : State} (h : s.LanesConsistent) (g : Segment) :
    AnswersConsistent (execShelfFrameDiscarded g s) := by
  unfold execShelfFrameDiscarded
  simp only
  split
  · exact .next (h.setSweep g _)
  · exact .next h

theorem execShelfReceptionBegins_consistent {s : State} (h : s.LanesConsistent) (g : Segment) :
    AnswersConsistent (execShelfReceptionBegins g s) := by
  unfold execShelfReceptionBegins
  simp only
  split
  · exact .next (h.setSweep g _)
  · split
    · split
      · exact .next h
      · exact .next (h.setSweep g _)
    · exact .next h
    · exact .next (h.setSweep g _)
    · exact .next (h.setSweep g _)

/-- Every command keeps the lane records consistent. -/
theorem exec_consistent (c : Instr) {s : State} (h : s.LanesConsistent) : AnswersConsistent (exec c s) := by
  cases c with
  | coldStart => exact .next (.coldStart s)
  | resolutionCompletes => exact execResolutionCompletes_consistent h
  | buFrameReceived bytes =>
    refine .next ?_
    split
    · exact h.routeDown _
    · exact h.buFault
  | bdFrameReceived bytes =>
    refine .next ?_
    split
    · exact h.forwardUp _
    · exact h.bdFault
  | bdTransmit =>
    refine .next ?_
    split
    · exact h
    · exact h.withBackbone _
  | upstreamChoice => exact .next h.chooseUpstream
  | zeroingDeadlineReached n => exact execZeroingDeadlineReached_consistent h n
  | replenishDeadlineReached n => exact execReplenishDeadlineReached_consistent h n
  | holdDeadlineReached => exact execHoldDeadlineReached_consistent h
  | noticeSpacingElapsed => exact execNoticeSpacingElapsed_consistent h
  | beaconPhaseToggle b => exact execBeaconPhaseToggle_consistent h b
  | akeyLevelChange low => exact execAkeyLevelChange_consistent h low
  | debounceExpiry => exact execDebounceExpiry_consistent h
  | holdTimerExpiry => exact execHoldTimerExpiry_consistent h
  | sweepTimerExpiry g => exact execSweepTimerExpiry_consistent h g
  | shelfTransmissionEnd g => exact execShelfTransmissionEnd_consistent h g
  | replyWindowExpiry g => exact execReplyWindowExpiry_consistent h g
  | readingReceived g bytes => exact execReadingReceived_consistent h g bytes
  | relayAnswerReceived g bytes => exact execRelayAnswerReceived_consistent h g bytes
  | shelfFrameDiscarded g => exact execShelfFrameDiscarded_consistent h g
  | shelfReceptionBegins g => exact execShelfReceptionBegins_consistent h g
  | _ => exact .next (h.submit _)

/-- Settles O56: every command keeps the lane records consistent, and so does the passing of time. -/
theorem stepKeepsLanesConsistent : Obligations.StepKeepsLanesConsistent := by
  intro s t h ht
  unfold step at ht
  split at ht
  · unfold idle at ht
    split at ht
    · exact exec_consistent _ h t ht
    · cases ht
      exact h.elapse 1
  · rename_i c rest _
    have dequeued : LanesConsistent { s with pending := rest } := h.of_view rfl rfl rfl rfl
    exact exec_consistent c dequeued t ht

end Sys2Proof.Machine
end

section
/-! The two starts' values: what COLD START writes (O4), and the state after reset (O60). -/

namespace Sys2Proof.Machine

/-- Settles O4: the cold start values of every block, unfolded. -/
theorem coldStartValues : Obligations.ColdStartValues :=
  ⟨rfl, rfl, rfl, rfl, rfl, fun _ => rfl⟩

/-! ### The state after reset -/

theorem LaneConfig.cold_inRange : LaneConfig.cold.InRange := by
  simp [LaneConfig.InRange, LaneConfig.cold]

theorem Lane.cold_inRange : Lane.cold.InRange :=
  ⟨LaneConfig.cold_inRange, by simp [Lane.cold], by simp [Lane.cold], by simp [Lane.cold],
    by simp [Lane.cold]⟩

theorem Node.cold_inRange : Node.cold.InRange := by simp [Node.InRange, Node.cold]

theorem Image.cold_inRange : Image.cold.InRange :=
  ⟨fun _ => by simp [Image.cold], fun _ => by simp [Image.cold],
    fun _ _ _ h => by simp [Image.cold] at h⟩

theorem Management.cold_inRange : Management.cold.InRange := by
  refine ⟨?_, by simp [Management.cold], fun tag r h => by simp [Management.cold] at h⟩
  simp [Management.cold, Settings.InRange, Settings.cold]

theorem Backbone.cold_inRange : Backbone.cold.InRange := by simp [Backbone.InRange, Backbone.cold]

theorem State.reset_inRange : State.reset.InRange where
  left := Backbone.cold_inRange
  right := by
    refine ⟨Management.cold_inRange, Nat.zero_le _, fun g => ?_, Image.cold_inRange, Image.cold_inRange,
      fun n => ?_, fun i => ?_, ⟨Nat.zero_le _, nofun⟩, ⟨Nat.zero_le _, nofun⟩, nofun, nofun⟩
    · simp [State.reset, NoticeUnit.cold]
    · simpa [State.reset] using Lane.cold_inRange
    · simpa [State.reset] using Node.cold_inRange

/-- No subject has a pending kind or is due after reset. -/
theorem State.reset_idle (x : Subject) :
    State.reset.kindPending x = false ∧ State.reset.isDue x = false := by
  cases x <;> simp [State.reset, State.kindPending, State.isDue, Lane.cold, Node.cold, LaneKinds.any]

theorem State.reset_noticesConsistent : State.reset.NoticesConsistent := by
  have hq : State.reset.notice.queue = [] := rfl
  have hd : State.reset.notice.deferred = [] := rfl
  refine ⟨fun x => ?_, fun x => ?_, fun x => ?_, ?_, ?_, ?_, ?_, ?_, ?_⟩ <;>
    simp [hq, hd, State.queued, State.reset_idle]

theorem State.reset_requestsConsistent : State.reset.RequestsConsistent :=
  ⟨nofun, nofun, fun h => absurd rfl h, fun _ => ⟨rfl, rfl, rfl, rfl, rfl⟩, .nil, .nil, nofun, nofun⟩

theorem State.reset_beaconsFollow : State.reset.BeaconsFollow := by
  intro b
  simp [State.reset, NoticeUnit.cold, Beacon.isFlashing, State.demanded, Lane.cold]

/-- Settles O60: the state after reset, property by property. -/
theorem resetHasWhatStepsKeep : Obligations.ResetHasWhatStepsKeep :=
  ⟨State.reset_inRange, State.LanesConsistent.reset, State.reset_noticesConsistent,
    State.reset_requestsConsistent, State.reset_beaconsFollow⟩

end Sys2Proof.Machine
end

section
/-! ZERO LANE (O20) and the deadlines (O39). -/

namespace Sys2Proof.Machine

/-- ZERO LANE at a station that takes requests at their delivery. -/
theorem exec_zeroLane {s : State} (h : s.TakesAtOnce) (tag b : Byte) :
    exec (.zeroLane tag [b]) s =
      .next (State.reply tag .zeroLane (s.requestZeroLane [RequestCode.zeroLane.code, b])) :=
  exec_command_fits (fields := [b]) h .zeroLane (by decide) rfl

/-- Beginning to zero a counting lane, written out (R13, R6). -/
theorem Lane.beginZeroing_record (now : Clock) (l : Lane) : l.beginZeroing now = { l with
    window := []
    cells := l.cells.map (fun c => { c with fresh := false })
    state := if l.state = .steady then .moving else l.state
    zeroDeadline := some (now + 30000)
    zeroResult := none } := by
  rw [← LaneState.disturbed_eq]
  rfl

theorem index_lane (n : Fin 128) : index 128 (byteAt [RequestCode.zeroLane.code, byteOf n.val] 1) = some n := by
  rw [byteAt_succ, byteAt_zero, toNat_byteOf (by omega), index_val]

theorem requestZeroLane_unbound {s : State} {p : List Byte} {n : Fin 128}
    (hn : index 128 (byteAt p 1) = some n) (hs : (s.lanes.get n).state = .unbound) :
    s.requestZeroLane p = s.refuse .laneUnbound := by
  simp [State.requestZeroLane, hn, hs]

theorem requestZeroLane_blind {s : State} {p : List Byte} {n : Fin 128}
    (hn : index 128 (byteAt p 1) = some n) (hs : (s.lanes.get n).state = .blind) :
    s.requestZeroLane p = s.refuse .laneBlind := by
  simp [State.requestZeroLane, hn, hs]

theorem requestZeroLane_counting {s : State} {p : List Byte} {n : Fin 128}
    (hn : index 128 (byteAt p 1) = some n) (hs : (s.lanes.get n).state.counting = true) :
    s.requestZeroLane p = (s.modifyLane n (Lane.beginZeroing s.now)).done := by
  cases hst : (s.lanes.get n).state <;> simp_all [State.requestZeroLane, LaneState.counting]

theorem requestZeroLane_no_lane {s : State} {p : List Byte} (hn : index 128 (byteAt p 1) = none) :
    s.requestZeroLane p = s.refuse .noSuch := by
  simp [State.requestZeroLane, hn]

/-- Settles O20, by the lane number and the lane state. -/
theorem zeroLaneBeginsZeroing : Obligations.ZeroLaneBeginsZeroing := by
  intro s tag h
  refine ⟨fun n => ⟨fun hs => ?_, fun hs => ?_, fun hs => ?_⟩, fun b hb => ?_⟩ <;>
    rw [exec_zeroLane h]
  · have hc : (s.lanes.get n).state.counting = true := by
      rcases hs with hs | hs | hs | hs <;> rw [hs] <;> rfl
    rw [requestZeroLane_counting (index_lane n) hc, State.reply_done, State.modifyLane, Table.modify,
      Lane.beginZeroing_record]
    rfl
  · rw [requestZeroLane_unbound (index_lane n) hs]
    rfl
  · rw [requestZeroLane_blind (index_lane n) hs]
    rfl
  · rw [requestZeroLane_no_lane (index_of_le (by simpa using Nat.succ_le_of_lt hb))]
    rfl

/-! ### Deadlines -/

/-- Time up to a deadline, as the statements write it (R149). -/
theorem remaining_eq (now d : Clock) :
    remaining now d = if 0 ≤ (now - d).toInt then 0 else (d - now).toNat := by
  simp [remaining, reached]

/-- After what remains has passed the clock has reached the deadline. -/
theorem reached_after_remaining (now d : Clock) :
    0 ≤ (now + BitVec.ofNat 32 (remaining now d) - d).toInt := by
  rw [remaining_eq]
  split_ifs with h
  · simpa using h
  · rw [BitVec.ofNat_toNat, BitVec.setWidth_eq, show now + (d - now) - d = 0 by bv_omega]
    decide

/-- The closing of an event that wrote lanes beside what `after` differs in. -/
theorem State.close_withLanes {before after : State} (h : before.nodes = after.nodes)
    (lanes : Table Lane 128) : after.SameButLanes (State.close before { after with lanes := lanes }) :=
  State.close_sameButLanes (after := { after with lanes := lanes }) h

/-- An event that wrote one lane leaves the others. -/
theorem State.close_modifyLane_ne (s : State) {n m : Fin 128} (f : Lane → Lane) (h : m ≠ n) :
    (State.close s (s.modifyLane n f)).lanes.get m = s.lanes.get m := by
  rw [State.close_lane, State.modifyLane_lanes, Table.get_modify_ne _ h.symm, Lane.settleDue_self]

theorem State.close_modifyLane_self (s : State) (n : Fin 128) (f : Lane → Lane) :
    (State.close s (s.modifyLane n f)).lanes.get n =
      Lane.settleDue s.now (s.lanes.get n) (f (s.lanes.get n)) := by
  rw [State.close_lane, State.modifyLane_lanes, Table.get_modify_self]
  rfl

/-- The end of the freeze of a replenish deadline (R70, R72): judged unless another cause is in force. -/
theorem Lane.judge_replenishEnded (groups : Table Group 16) (now : Clock) (hold : Bool) (l : Lane)
    (hl : l.replenishDeadline.isSome = true) :
    Lane.judge groups now hold hold l { l with replenishDeadline := none } =
      if l.state = .unbound ∨ l.state = .acquiring ∨ hold = true then { l with replenishDeadline := none }
      else Lane.freezeEnded (groups.get l.config.group) now { l with replenishDeadline := none } := by
  rw [← Lane.evaluateRaising_eq { l with replenishDeadline := none } groups now]
  unfold Lane.judge
  cases hold <;> cases hs : l.state <;> simp [Lane.frozen, Lane.triggered, LaneState.judged, hs, hl]

theorem exec_zeroingDeadline {s : State} {n : Fin 128} {d : Clock}
    (h : (s.lanes.get n).zeroDeadline = some d) :
    exec (.zeroingDeadlineReached n) s = .next (State.close (s.elapse (remaining s.now d))
      ((s.elapse (remaining s.now d)).modifyLane n (Lane.endZeroing .timeout))) := by
  simp only [exec, execZeroingDeadlineReached, h]

theorem exec_replenishDeadline {s : State} {n : Fin 128} {d : Clock}
    (h : (s.lanes.get n).replenishDeadline = some d) :
    exec (.replenishDeadlineReached n) s = .next (State.close (s.elapse (remaining s.now d))
      ((s.elapse (remaining s.now d)).modifyLane n fun l =>
        (s.elapse (remaining s.now d)).judge l { l with replenishDeadline := none })) := by
  simp only [exec, execReplenishDeadlineReached, h]

theorem exec_holdDeadline {s : State} {d : Clock} (h : s.notice.holdDeadline = some d) :
    exec .holdDeadlineReached s = .next (s.elapse (remaining s.now d)).endHold := by
  simp only [exec, execHoldDeadlineReached, h]

/-- The end of aisle hold in force (R101, R73). -/
theorem State.endHold_of_holding {s : State} (h : s.holding = true) : s.endHold =
    State.close s { s with
      notice := { s.notice with holdDeadline := none }
      lanes := s.lanes.map (fun l => Lane.judge s.notice.groups s.now true false l l) } := by
  rw [State.endHold, if_pos h]

/-- Settles O39, deadline by deadline, after the time that remains has passed. -/
theorem deadlinesAreTaken : Obligations.DeadlinesAreTaken := by
  intro s d
  simp only
  rw [show (if 0 ≤ (s.backbone.clock - d).toInt then 0 else (d - s.backbone.clock).toNat) =
    remaining s.now d from (remaining_eq _ _).symm]
  refine ⟨reached_after_remaining s.now d, fun n => ⟨fun hz => ?_, fun hr => ?_⟩, fun hh => ?_⟩
  · refine ⟨_, exec_zeroingDeadline hz, State.close_withLanes rfl _,
      fun m hm => State.close_modifyLane_ne _ _ hm, State.close_modifyLane_self _ _ _⟩
  · refine ⟨_, exec_replenishDeadline hr, State.close_withLanes rfl _,
      fun m hm => State.close_modifyLane_ne _ _ hm, (State.close_modifyLane_self _ _ _).trans ?_⟩
    congr 1
    exact Lane.judge_replenishEnded _ _ _ _ (by simp [hr])
  · have hold : (s.elapse (remaining s.now d)).holding = true := by simp [State.holding, hh]
    refine ⟨_, exec_holdDeadline hh, ?_, fun n => ?_⟩ <;> rw [State.endHold_of_holding hold]
    · exact State.close_withLanes (before := s.elapse (remaining s.now d)) (after := {
        s.elapse (remaining s.now d) with notice := {
          (s.elapse (remaining s.now d)).notice with holdDeadline := none } }) rfl _
    · rw [State.close_lane, Table.get_map, Lane.judge_holdEnded]
      rfl

end Sys2Proof.Machine
end

section
/-! WRITE LANE: its fields, what it stores and refuses (O17), and what it does to the lane (O18). -/

namespace Sys2Proof.Machine

/-! ### The fields of a WRITE LANE (Table 8-9) -/

theorem LaneWrite.fields_length (n : Fin 128) (w : LaneWrite) : (w.fields n).length = 30 := rfl

/-- The fields as written are read back (Table 8-9). -/
theorem laneWrite_fields (b : Byte) (n : Fin 128) {w : LaneWrite} (h : w.Carried) :
    laneWrite (b :: w.fields n) = w := by
  obtain ⟨hu, ht, hcap, hlow, hcrit, hhys, hsc, hsb, htf, htu, hlim, hrep, hgrp⟩ := h
  have two {x : Nat} (hx : x < 65536) : natOf [byteOf (x / 2 ^ 8), byteOf x] = x := natOf_be2 hx
  have four {x : Nat} (hx : x < 4294967296) :
      natOf [byteOf (x / 2 ^ 24), byteOf (x / 2 ^ 16), byteOf (x / 2 ^ 8), byteOf x] = x := natOf_be4 hx
  have product := four w.product.isLt
  simp only [laneWrite, LaneWrite.fields, fieldAt, yesAt, be2, be4, List.cons_append, List.nil_append,
    List.drop_succ_cons, List.drop_zero, List.take_succ_cons, List.take_zero, byteAt_succ, byteAt_zero,
    two hu, four ht, two hcap, two hlow, two hcrit, two hsb, two htf, two hrep, product,
    toNat_byteOf hhys, toNat_byteOf hsc, toNat_byteOf htu, toNat_byteOf hlim, toNat_byteOf hgrp,
    yesAt_yesByte, BitVec.ofNat_toNat, BitVec.setWidth_eq]

theorem laneWrite_lane (b : Byte) (n : Fin 128) (w : LaneWrite) :
    index 128 (byteAt (b :: w.fields n) 1) = some n := by
  rw [show byteAt (b :: w.fields n) 1 = n.val from toNat_byteOf (by omega), index_val]

/-- The bytes between the two flags are read whatever stands about them. -/
theorem fieldAt_between (a b c d : Byte) {rest : List Byte} {i len : Nat} (h : i + len ≤ rest.length) :
    fieldAt (a :: b :: c :: (rest ++ [d])) (i + 3) len = fieldAt rest i len := by
  simp only [fieldAt, List.drop_succ_cons]
  rw [List.drop_append_of_le_length (by omega), List.take_append_of_le_length (by simp; omega)]

theorem byteAt_between (a b c d : Byte) {rest : List Byte} {i : Nat} (h : i < rest.length) :
    byteAt (a :: b :: c :: (rest ++ [d])) (i + 3) = byteAt rest i := by
  rw [byteAt_succ, byteAt_succ, byteAt_succ, byteAt, List.getD_append _ _ _ _ h]
  rfl

theorem byteAt_last (a b c d : Byte) (rest : List Byte) :
    byteAt (a :: b :: c :: (rest ++ [d])) (rest.length + 3) = d.toNat := by
  simp [byteAt]

/-- Of the two flag bytes a WRITE LANE reads only whether they are 0 (Table 8-6). -/
theorem laneWrite_flags (a b c c' d d' : Byte) {rest : List Byte} (h : rest.length = 27)
    (hc : (c != 0) = (c' != 0)) (hd : (d != 0) = (d' != 0)) :
    laneWrite (a :: b :: c :: (rest ++ [d])) = laneWrite (a :: b :: c' :: (rest ++ [d'])) := by
  have field (i len : Nat) (hlo : 3 ≤ i := by decide) (hi : i + len ≤ 30 := by decide) :
      fieldAt (a :: b :: c :: (rest ++ [d])) i len = fieldAt (a :: b :: c' :: (rest ++ [d'])) i len := by
    obtain ⟨k, rfl⟩ := Nat.exists_eq_add_of_le' hlo
    rw [fieldAt_between _ _ _ _ (by omega), fieldAt_between _ _ _ _ (by omega)]
  have byte (i : Nat) (hlo : 3 ≤ i := by decide) (hi : i < 30 := by decide) :
      byteAt (a :: b :: c :: (rest ++ [d])) i = byteAt (a :: b :: c' :: (rest ++ [d'])) i := by
    obtain ⟨k, rfl⟩ := Nat.exists_eq_add_of_le' hlo
    rw [byteAt_between _ _ _ _ (by omega), byteAt_between _ _ _ _ (by omega)]
  have enabled : yesAt (a :: b :: c :: (rest ++ [d])) 2 = yesAt (a :: b :: c' :: (rest ++ [d'])) 2 := by
    simpa only [yesAt, byteAt_succ, byteAt_zero, toNat_bne_zero] using hc
  have counts : yesAt (a :: b :: c :: (rest ++ [d])) 30 = yesAt (a :: b :: c' :: (rest ++ [d'])) 30 := by
    have hl : 30 = rest.length + 3 := by omega
    rw [yesAt, yesAt, hl, byteAt_last, byteAt_last, toNat_bne_zero, toNat_bne_zero, hd]
  rw [laneWrite, laneWrite, enabled, counts, field 3 4, field 7 2, field 9 4, field 13 2, field 15 2,
    field 17 2, byte 19, byte 20, field 21 2, field 23 2, byte 25, byte 26, field 27 2, byte 29]

/-! ### What is stored (R1) -/

/-- Nothing is clamped exactly where every field lies in its range (R1, Table 1-1). -/
theorem LaneWrite.exact_stored_iff (w : LaneWrite) (g : Fin 16) : w.exact (w.stored g) = true ↔
    w.unitWeight ≤ 65000 ∧ w.tare ≤ 1000000 ∧ 1 ≤ w.capacity ∧ w.capacity ≤ 4095
      ∧ w.lowMark < w.capacity ∧ w.criticalMark ≤ w.lowMark ∧ 2 ≤ w.settleCount
      ∧ w.settleCount ≤ 8 ∧ 1 ≤ w.settleBand ∧ 1 ≤ w.unfitLimit ∧ w.replenish ≤ 1800 := by
  simp only [LaneWrite.exact, LaneWrite.stored, clampTo, Config.maxTare, Bool.and_eq_true, beq_iff_eq]
  omega

/-! ### The request -/

variable {s : State} {tag : Byte} {p : List Byte}

theorem exec_writeLane (h : s.TakesAtOnce) {fields : List Byte} (hf : fields.length = 30) :
    exec (.writeLane tag fields) s =
      .next (State.reply tag .writeLane (s.requestWriteLane (RequestCode.writeLane.code :: fields))) :=
  exec_command_fits h .writeLane (by decide) (by rw [hf]; rfl)

theorem requestWriteLane_no_lane (hn : index 128 (byteAt p 1) = none) :
    s.requestWriteLane p = s.refuse .noSuch := by
  simp [State.requestWriteLane, hn]

theorem requestWriteLane_no_weight {n : Fin 128} (hn : index 128 (byteAt p 1) = some n)
    (hw : (laneWrite p).unitWeight = 0) : s.requestWriteLane p = s.refuse .badValue := by
  simp [State.requestWriteLane, hn, hw]

theorem requestWriteLane_no_group {n : Fin 128} (hn : index 128 (byteAt p 1) = some n)
    (hw : (laneWrite p).unitWeight ≠ 0) (hg : index 16 (laneWrite p).group = none) :
    s.requestWriteLane p = s.refuse .noSuch := by
  simp [State.requestWriteLane, hn, hw, hg]

/-- The state after the event of a stored WRITE LANE (R11, R12, R64, R66, R85). -/
def State.laneWritten (s : State) (n : Fin 128) (c : LaneConfig) : State :=
  State.close s (s.modifyLane n (fun l => s.judge l (l.rewrite s.nodes c)))

theorem requestWriteLane_stored {n : Fin 128} {g : Fin 16} (hn : index 128 (byteAt p 1) = some n)
    (hw : (laneWrite p).unitWeight ≠ 0) (hg : index 16 (laneWrite p).group = some g) :
    s.requestWriteLane p =
      ⟨if (laneWrite p).exact ((laneWrite p).stored g) then .done else .adjusted, [],
        s.laneWritten n ((laneWrite p).stored g)⟩ := by
  simp [State.requestWriteLane, hn, hw, hg, State.laneWritten]

/-- The request reads its lane byte and its fields. -/
theorem requestWriteLane_congr {q : List Byte} (hw : laneWrite p = laneWrite q)
    (hn : byteAt p 1 = byteAt q 1) : s.requestWriteLane p = s.requestWriteLane q := by
  unfold State.requestWriteLane
  rw [hn, hw]

/-- A WRITE LANE that is not refused: its answer, and the state of its event. -/
theorem exec_writeLane_stored (h : s.TakesAtOnce) (n : Fin 128) {w : LaneWrite} {g : Fin 16}
    (hw : w.Carried) (hu : w.unitWeight ≠ 0) (hg : w.group = g.val) :
    exec (.writeLane tag (w.fields n)) s = .next ((s.laneWritten n (w.stored g)).answered tag
      [0x20, if w.exact (w.stored g) then 0x00 else 0x01]) := by
  have hr := laneWrite_fields RequestCode.writeLane.code n hw
  rw [exec_writeLane h (w.fields_length n), requestWriteLane_stored (laneWrite_lane _ n w)
    (by rwa [hr]) (by rw [hr, hg, index_val]), hr]
  cases w.exact (w.stored g) <;> rfl

/-! ### The record after the event -/

theorem Lane.settleDue_config (now : Clock) (b l : Lane) : (Lane.settleDue now b l).config = l.config := by
  unfold Lane.settleDue
  split_ifs <;> rfl

theorem State.judge_config (s : State) (b l : Lane) : (s.judge b l).config = l.config := by
  rw [State.judge, Lane.judge_frame]

theorem Lane.rewriteState_config (nodes : Table Node 64) (c : LaneConfig) (l : Lane) :
    (({ l with config := c } : Lane).rewriteState nodes l.config).config = c := by
  have hc := l.rewritten_config c
  rw [Lane.rewriteState_eq]
  split_ifs
  · exact hc
  · exact ((l.rewritten c).enters_enterBound nodes).config.trans hc
  · exact (l.rewritten c).enterUnbound_config.trans hc
  · exact (l.rewritten c).enters_enterAcquiring.config.trans hc
  · exact hc

theorem Lane.cancelZeroing_count (l : Lane) : l.cancelZeroing.count = l.count := by
  rw [Lane.cancelZeroing_record]

theorem Lane.enterBound_count (nodes : Table Node 64) (l : Lane) : (l.enterBound nodes).count = l.count := by
  unfold Lane.enterBound
  split_ifs
  · rw [Lane.enterBlind_record]
  · rfl

theorem Lane.enterUnbound_count (l : Lane) : l.enterUnbound.count = l.count := by
  simp [Lane.enterUnbound, Lane.cancelZeroing_record, Lane.clearWindow]

theorem Lane.rewriteState_count (nodes : Table Node 64) (c : LaneConfig) (l : Lane) :
    (({ l with config := c } : Lane).rewriteState nodes l.config).count = l.count := by
  have hc : (l.rewritten c).count = l.count := Lane.cancelZeroing_count _
  rw [Lane.rewriteState_eq]
  split_ifs
  · exact hc
  · exact (Lane.enterBound_count nodes _).trans hc
  · exact (Lane.enterUnbound_count _).trans hc
  · exact hc
  · exact hc

theorem Lane.rewriteRest_eq (old : LaneConfig) (l : Lane) : l.rewriteRest old = { l with
    window := l.window.drop (l.window.length - l.config.settleCount)
    overfill :=
      if l.config.capacity ≠ old.capacity ∧ l.state ≠ .unbound then decide (l.config.capacity < l.count)
      else l.overfill } := by
  simp [Lane.rewriteRest]

theorem Lane.rewriteBand_eq (old : LaneConfig) (l : Lane) : l.rewriteBand old = { l with
    band :=
      if (l.state = .steady ∨ l.state = .moving)
          ∧ (l.config.capacity ≠ old.capacity ∨ l.config.lowMark ≠ old.lowMark
            ∨ l.config.criticalMark ≠ old.criticalMark ∨ l.config.hysteresis ≠ old.hysteresis) then
        nextBand l.config l.band l.count
      else l.band } := by
  simp only [Lane.rewriteBand, Bool.and_eq_true, Bool.or_eq_true, beq_iff_eq, bne_iff_ne, or_assoc]
  split_ifs <;> rfl

theorem Lane.rewrite_config (nodes : Table Node 64) (c : LaneConfig) (l : Lane) :
    (l.rewrite nodes c).config = c := by
  rw [Lane.rewrite, Lane.rewriteBand_eq]
  exact l.rewriteState_config nodes c

theorem State.laneWritten_self (s : State) (n : Fin 128) (c : LaneConfig) :
    (s.laneWritten n c).lanes.get n = Lane.settleDue s.now (s.lanes.get n)
      (s.agreed (s.lanes.get n) ((s.lanes.get n).rewrite s.nodes c)) :=
  State.close_modifyLane_self s n _

theorem State.laneWritten_ne (s : State) {n m : Fin 128} (c : LaneConfig) (h : m ≠ n) :
    (s.laneWritten n c).lanes.get m = s.lanes.get m := State.close_modifyLane_ne s _ h

theorem State.laneWritten_config (s : State) (n : Fin 128) (c : LaneConfig) :
    ((s.laneWritten n c).lanes.get n).config = c := by
  rw [State.laneWritten_self, Lane.settleDue_config]
  exact (State.judge_config s _ _).trans (Lane.rewrite_config _ _ _)

theorem State.laneWritten_sameButLanes (s : State) (n : Fin 128) (c : LaneConfig) :
    s.SameButLanes (s.laneWritten n c) := State.close_withLanes rfl _

theorem State.SameButLanes.answered {t : State} (h : s.SameButLanes t) (payload : List Byte) :
    (s.answered tag payload).SameButLanes (t.answered tag payload) := by
  unfold State.SameButLanes at *
  conv_lhs => rw [h]
  rfl

/-- A flag byte and the byte that is sent for it say the same (Table 8-6). -/
theorem flag_normal (b : Byte) : (b != 0) = ((if b = 0x00 then (0x00 : Byte) else 0x01) != 0) := by
  split_ifs with h
  · rw [h]
  · simpa using h

/-- Settles O17: what is stored, the bytes that count as yes, and the refusals in their order. -/
theorem writeLaneStoresClamped : Obligations.WriteLaneStoresClamped := by
  intro s tag h
  refine ⟨fun n w g hw hu hg => ?_, fun n enabled counts rest hr => ?_, fun n rest hr hn => ?_,
    fun n w hw => ⟨fun hu => ?_, fun hu hg => ?_⟩⟩
  · have hx := w.exact_stored_iff g
    have hs := s.laneWritten_sameButLanes n (w.stored g)
    refine ⟨_, exec_writeLane_stored h n hw hu hg, s.laneWritten_config n _,
      fun m hm => s.laneWritten_ne _ hm, fun ha => ?_, fun ha => ?_⟩
    · rw [if_pos (hx.2 ha)]
      exact hs.answered _
    · rw [if_neg (mt hx.1 ha)]
      exact hs.answered _
  · rw [exec_writeLane h (by simp [hr]), exec_writeLane h (by simp [hr])]
    have hf := laneWrite_flags RequestCode.writeLane.code n enabled _ counts _ hr
      (flag_normal enabled) (flag_normal counts)
    simp only [List.cons_append, List.nil_append] at hf ⊢
    rw [requestWriteLane_congr hf rfl]
  · rw [exec_writeLane h (by simp [hr]), requestWriteLane_no_lane (index_of_le (by simpa using Nat.succ_le_of_lt hn))]
    rfl
  · rw [exec_writeLane h (w.fields_length n), requestWriteLane_no_weight (laneWrite_lane _ n w)
      (by rwa [laneWrite_fields _ n hw])]
    rfl
  · rw [exec_writeLane h (w.fields_length n), requestWriteLane_no_group (laneWrite_lane _ n w)
      (by rwa [laneWrite_fields _ n hw]) (by rw [laneWrite_fields _ n hw, index_of_le hg])]
    rfl

/-! ### What happens to the lane -/

/-- The states of a rewritten lane as the statement of O18 writes them (R11). -/
def Lane.movedBy (nodes : Table Node 64) (c : LaneConfig) (l : Lane) : Lane :=
  let stored : Lane := ({ l with config := c } : Lane).unzeroed
  if c.enabled ≠ l.config.enabled then
    if l.cells = [] then stored
    else if c.enabled = true then
      (if ∃ x ∈ l.cells, (nodes.get x.ref.slot).state = .cutOff
          ∨ (nodes.get x.ref.slot).state = .absent
        then stored.wentBlind else stored.wentAcquiring).doubted nodes
    else stored.wentUnbound
  else if l.state.counting = true
      ∧ (c.unitWeight ≠ l.config.unitWeight ∨ c.tare ≠ l.config.tare) then
    stored.wentAcquiring
  else stored

theorem Lane.rewritten_feedLost (nodes : Table Node 64) (c : LaneConfig) (l : Lane) :
    (l.rewritten c).feedLost nodes = l.feedLost nodes := by
  rw [Lane.rewritten, Lane.cancelZeroing_record]
  rfl

theorem Lane.rewriteState_movedBy (nodes : Table Node 64) (c : LaneConfig) (l : Lane) :
    ({ l with config := c } : Lane).rewriteState nodes l.config = l.movedBy nodes c := by
  rw [Lane.rewriteState_eq, Lane.movedBy]
  simp only [Lane.enterBound, Lane.rewritten_feedLost, Lane.feedLost_iff, Lane.setDoubt_eq, bne_iff_ne,
    List.isEmpty_iff, Bool.and_eq_true, Bool.or_eq_true]
  rfl

/-- The whole record before its judgement as the statement of O18 writes it (R11, R12, R64). -/
def Lane.actedOn (nodes : Table Node 64) (c : LaneConfig) (l : Lane) : Lane :=
  let moved := l.movedBy nodes c
  let trimmed : Lane := { moved with
    window := moved.window.drop (moved.window.length - c.settleCount)
    overfill :=
      if c.capacity ≠ l.config.capacity ∧ moved.state ≠ .unbound then decide (c.capacity < l.count)
      else moved.overfill }
  { trimmed with
    band :=
      if (moved.state = .steady ∨ moved.state = .moving)
          ∧ (c.capacity ≠ l.config.capacity ∨ c.lowMark ≠ l.config.lowMark
            ∨ c.criticalMark ≠ l.config.criticalMark ∨ c.hysteresis ≠ l.config.hysteresis) then
        nextBand c moved.band l.count
      else moved.band }

theorem Lane.rewrite_actedOn (nodes : Table Node 64) (c : LaneConfig) (l : Lane) :
    l.rewrite nodes c = l.actedOn nodes c := by
  have hconfig := l.rewriteState_config nodes c
  have hcount := l.rewriteState_count nodes c
  rw [Lane.rewriteState_movedBy] at hconfig hcount
  rw [Lane.rewrite, Lane.rewriteState_movedBy, Lane.rewriteBand_eq, Lane.rewriteRest_eq, Lane.actedOn]
  generalize l.movedBy nodes c = moved at *
  subst hconfig
  rw [← hcount]

/-- Settles O18: the stored configuration, then R11, R12 and R64 in turn, one judgement and notice due. -/
theorem writeLaneActsOnLaneState : Obligations.WriteLaneActsOnLaneState := by
  intro s tag n w h hw hu hg
  obtain ⟨t, ht, c, henabled, hlane⟩ : ∃ t, exec (.writeLane tag (w.fields n)) s = .next t ∧
      ∃ c, c.enabled = w.enabled ∧ t.lanes.get n = Lane.settleDue s.backbone.clock (s.lanes.get n)
        (s.agreed (s.lanes.get n) ((s.lanes.get n).rewrite s.nodes c)) :=
    ⟨_, exec_writeLane_stored h n (g := ⟨w.group, hg⟩) hw hu rfl, _, rfl, s.laneWritten_self n _⟩
  have hc : (t.lanes.get n).config = c := by
    rw [hlane, Lane.settleDue_config]
    exact (s.judge_config _ _).trans (Lane.rewrite_config _ _ _)
  refine ⟨t, ht, ?_⟩
  rw [hc, hlane, Lane.rewrite_actedOn]
  exact ⟨henabled, rfl⟩

end Sys2Proof.Machine
end

section
/-! The staged image: DISCARD (O14), COMMIT and RESTART (O28). -/

namespace Sys2Proof.Machine

/-- Settles O14: the request's rule, and its REPLY. -/
theorem discardCopiesActiveImage : Obligations.DiscardCopiesActiveImage := fun _ _ h =>
  exec_command_fits (fields := []) h .discard (by decide) rfl

theorem exec_commit {s : State} (h : s.TakesAtOnce) (tag : Byte) :
    exec (.commit tag []) s = .next (s.beginCommit tag) := by
  rw [← State.execute_commit, ← State.submit_taken h]
  rfl

/-- Settles O28: a COMMIT is held with its resolution, a RESTART with its REPLY. -/
theorem commitAndRestartHoldEngine : Obligations.CommitAndRestartHoldEngine := fun _ tag h =>
  ⟨exec_commit h tag, exec_command_fits (fields := []) h .restart (by decide) rfl⟩

end Sys2Proof.Machine
end

section
/-! WRITE CAPTURE (O11), WRITE MASK and WRITE CALIBRATION (O12): the fields of each, what it stores in the staged
image, and its refusals in their order. -/

namespace Sys2Proof.Machine

/-! ### Indices and codes read back from a byte -/

theorem index_byteOf {n : Nat} (i : Fin n) (h : n ≤ 256) : index n (byteOf i.val).toNat = some i := by
  rw [toNat_byteOf (by omega), index_val]

/-- Six bits sent in a byte are read back as an index below 64. -/
theorem index_setWidth (a : BitVec 6) : index 64 (a.setWidth 8).toNat = some a.toFin := by
  rw [BitVec.toNat_setWidth_of_le (by decide)]
  exact index_val a.toFin

theorem ofCode_byteOf (g : Segment) : Segment.ofCode (byteOf g.code).toNat = some g := by
  cases g <;> rfl

theorem ofCode_eq_none {n : Nat} : Segment.ofCode n = none ↔ 1 < n := by
  rcases n with _ | _ | n <;> simp [Segment.ofCode]

variable {s : State} {tag : Byte} {p : List Byte}

/-- A request that stores in the staged image and completes with DONE. -/
theorem State.reply_staged (code : RequestCode) (image : Image) :
    State.reply tag code ({ s with staged := image } : State).done =
      ({ s with staged := image } : State).answered tag [code.code, 0x00] := rfl

/-! ### WRITE CAPTURE (R20) -/

theorem exec_writeCapture (h : s.TakesAtOnce) {fields : List Byte} (hf : fields.length = 7) :
    exec (.writeCapture tag fields) s = .next
      (State.reply tag .writeCapture (s.requestWriteCapture (RequestCode.writeCapture.code :: fields))) :=
  exec_command_fits h .writeCapture (by decide) (by rw [hf]; rfl)

section Capture

variable {code e v g a c m l : Byte}

theorem requestWriteCapture_noSuch
    (h : index 64 e.toNat = none ∨ index 4 m.toNat = none ∨ index 128 l.toNat = none) :
    s.requestWriteCapture [code, e, v, g, a, c, m, l] = s.refuse .noSuch := by
  unfold State.requestWriteCapture
  split
  · simp_all
  · rfl

theorem requestWriteCapture_badValue {entry : Fin 64} {mask : Fin 4} {lane : Fin 128}
    (he : index 64 e.toNat = some entry) (hm : index 4 m.toNat = some mask)
    (hl : index 128 l.toNat = some lane)
    (h : Segment.ofCode g.toNat = none ∨ index 64 a.toNat = none ∨ index 4 c.toNat = none) :
    s.requestWriteCapture [code, e, v, g, a, c, m, l] = s.refuse .badValue := by
  simp only [State.requestWriteCapture, byteAt_succ, byteAt_zero, he, hm, hl]
  split
  · simp_all
  · rfl

theorem requestWriteCapture_stored {entry address : Fin 64} {segment : Segment} {mask cell : Fin 4}
    {lane : Fin 128} (he : index 64 e.toNat = some entry) (hm : index 4 m.toNat = some mask)
    (hl : index 128 l.toNat = some lane) (hg : Segment.ofCode g.toNat = some segment)
    (ha : index 64 a.toNat = some address) (hc : index 4 c.toNat = some cell) :
    s.requestWriteCapture [code, e, v, g, a, c, m, l] = ({ s with staged := { s.staged with
      captures := s.staged.captures.set entry
        ⟨v != 0x00, segment, BitVec.ofFin address, cell, mask, lane⟩ } } : State).done := by
  simp [State.requestWriteCapture, yesAt, toNat_bne_zero, he, hm, hl, hg, ha, hc]

end Capture

/-- Settles O11: the six fields as stored, then the two refusals. -/
theorem writeCaptureStoresEntry : Obligations.WriteCaptureStoresEntry := by
  intro s tag h
  refine ⟨fun entry valid g address cell mask lane => ?_, fun entry valid g address cell mask lane =>
    ⟨fun hn => ?_, fun he hm hl hb => ?_⟩⟩ <;> rw [exec_writeCapture h rfl]
  · rw [requestWriteCapture_stored (index_byteOf entry (by decide)) (index_byteOf mask (by decide))
      (index_byteOf lane (by decide)) (ofCode_byteOf g) (index_setWidth address)
      (index_byteOf cell (by decide)), State.reply_staged]
    rfl
  · rw [requestWriteCapture_noSuch (hn.imp index_of_le (.imp index_of_le index_of_le)), State.reply_refuse]
    rfl
  · rw [requestWriteCapture_badValue (index_of_lt (Nat.lt_succ_of_le he))
      (index_of_lt (Nat.lt_succ_of_le hm)) (index_of_lt (Nat.lt_succ_of_le hl))
      (hb.imp ofCode_eq_none.2 (.imp index_of_le index_of_le)), State.reply_refuse]
    rfl

/-! ### WRITE MASK (R21) -/

theorem exec_writeMask (h : s.TakesAtOnce) {fields : List Byte} (hf : fields.length = 4) :
    exec (.writeMask tag fields) s = .next
      (State.reply tag .writeMask (s.requestWriteMask (RequestCode.writeMask.code :: fields))) :=
  exec_command_fits h .writeMask (by decide) (by rw [hf]; rfl)

section Mask

variable {code m v b c : Byte}

theorem requestWriteMask_noSuch (h : index 4 m.toNat = none) :
    s.requestWriteMask [code, m, v, b, c] = s.refuse .noSuch := by
  simp [State.requestWriteMask, h]

theorem requestWriteMask_badValue {slot : Fin 4} (hs : index 4 m.toNat = some slot)
    (hb : index 64 b.toNat = none) : s.requestWriteMask [code, m, v, b, c] = s.refuse .badValue := by
  simp [State.requestWriteMask, hs, hb]

theorem requestWriteMask_stored {slot : Fin 4} {bits : Fin 64} (hs : index 4 m.toNat = some slot)
    (hb : index 64 b.toNat = some bits) : s.requestWriteMask [code, m, v, b, c] =
      ({ s with staged := { s.staged with
        masks := s.staged.masks.set slot ⟨v != 0x00, BitVec.ofFin bits, c != 0x00⟩ } } : State).done := by
  simp [State.requestWriteMask, yesAt, toNat_bne_zero, hs, hb]

end Mask

/-! ### WRITE CALIBRATION (R22) -/

theorem exec_writeCalibration (h : s.TakesAtOnce) {fields : List Byte} (hf : fields.length = 7) :
    exec (.writeCalibration tag fields) s = .next (State.reply tag .writeCalibration
      (s.requestWriteCalibration (RequestCode.writeCalibration.code :: fields))) :=
  exec_command_fits h .writeCalibration (by decide) (by rw [hf]; rfl)

/-- The two numbers of a WRITE CALIBRATION, with the zero between them. -/
theorem fieldAt_calibration (b : Byte) {cell gain : Nat} {zero : List Byte} (hc : cell < 65536)
    (hg : gain < 65536) (hz : zero.length = 3) :
    fieldAt (b :: (be2 cell ++ zero ++ be2 gain)) 1 2 = cell
      ∧ fieldAt (b :: (be2 cell ++ zero ++ be2 gain)) 3 3 = natOf zero
      ∧ fieldAt (b :: (be2 cell ++ zero ++ be2 gain)) 6 2 = gain := by
  obtain ⟨x, y, z, rfl⟩ := List.length_eq_three.1 hz
  exact ⟨natOf_be2 hc, rfl, natOf_be2 hg⟩

theorem requestWriteCalibration_noSuch (h : index 256 (fieldAt p 1 2) = none) :
    s.requestWriteCalibration p = s.refuse .noSuch := by
  simp [State.requestWriteCalibration, h]

theorem requestWriteCalibration_badValue {cell : Fin 256} (hc : index 256 (fieldAt p 1 2) = some cell)
    (hg : fieldAt p 6 2 = 0) : s.requestWriteCalibration p = s.refuse .badValue := by
  simp [State.requestWriteCalibration, hc, hg]

theorem requestWriteCalibration_stored {cell : Fin 256} (hc : index 256 (fieldAt p 1 2) = some cell)
    (hg : fieldAt p 6 2 ≠ 0) : s.requestWriteCalibration p =
      ({ s with staged := { s.staged with
        calibration := s.staged.calibration.set cell ⟨int24At p 3, fieldAt p 6 2⟩ } } : State).done := by
  simp [State.requestWriteCalibration, hc, hg]

/-- The signed zero is read back from its three bytes. -/
theorem ofNat_natOf_be3 (zero : BitVec 24) : BitVec.ofNat 24 (natOf (be3 zero.toNat)) = zero := by
  rw [natOf_be3 zero.isLt, BitVec.ofNat_toNat, BitVec.setWidth_eq]

/-- Settles O12: WRITE MASK as stored and refused, then WRITE CALIBRATION. -/
theorem maskAndCalibrationStored : Obligations.MaskAndCalibrationStored := by
  intro s tag h
  refine ⟨fun slot segment bits cell => ?_, fun slot segment bits cell =>
    ⟨fun hs => ?_, fun hs hb => ?_⟩, fun cell zero gain hpos hg => ?_, fun cell gain zero hc hg hz =>
    ⟨fun hc' => ?_, fun hc' hg' => ?_⟩⟩
  · rw [exec_writeMask h rfl, requestWriteMask_stored (index_byteOf slot (by decide))
      (index_setWidth bits), State.reply_staged]
    rfl
  · rw [exec_writeMask h rfl, requestWriteMask_noSuch (index_of_le (Nat.succ_le_of_lt hs)),
      State.reply_refuse]
    rfl
  · rw [exec_writeMask h rfl, requestWriteMask_badValue (index_of_lt (Nat.lt_succ_of_le hs))
      (index_of_le (Nat.succ_le_of_lt hb)), State.reply_refuse]
    rfl
  · obtain ⟨rc, rz, rg⟩ := fieldAt_calibration RequestCode.writeCalibration.code
      (show cell.val < 65536 by omega) hg (be3_length zero.toNat)
    rw [exec_writeCalibration h rfl, requestWriteCalibration_stored (by rw [rc, index_val])
      (by omega), State.reply_staged, int24At, rz, rg, ofNat_natOf_be3]
    rfl
  · obtain ⟨rc, -, -⟩ := fieldAt_calibration RequestCode.writeCalibration.code hc hg hz
    rw [exec_writeCalibration h (by simp [hz]), requestWriteCalibration_noSuch
      (by rw [rc, index_of_le hc']), State.reply_refuse]
    rfl
  · obtain ⟨rc, -, rg⟩ := fieldAt_calibration RequestCode.writeCalibration.code hc hg hz
    rw [exec_writeCalibration h (by simp [hz]), requestWriteCalibration_badValue
      (by rw [rc, index_of_lt (Nat.lt_succ_of_le hc')]) (rg.trans hg'), State.reply_refuse]
    rfl

end Sys2Proof.Machine
end

section
/-! LOAD SWEEP LIST (O13): its records, where they are written, and the checks of R23 in their order. -/

namespace Sys2Proof.Machine

/-! ### Records (Table 9-1, note 1) -/

/-- A record is read back from its two bytes. -/
theorem sweepRecord_record (r : SweepPosition) (h : r.cellCount < 8) :
    sweepRecord (byteOf (128 * r.occupied.toNat + r.address.toNat))
      (byteOf (r.cellCount + 8 * r.mirror.toNat + 16 * r.autoRecover.toNat)) = r := by
  obtain ⟨occupied, address, cellCount, mirror, autoRecover⟩ := r
  have ha := address.isLt
  have ho := occupied.toNat_lt
  simp only [sweepRecord, SweepPosition.mk.injEq] at h ⊢
  have first : (byteOf (128 * occupied.toNat + address.toNat)).toNat
      = 128 * occupied.toNat + address.toNat := toNat_byteOf (by omega)
  refine ⟨?_, ?_, ?_, ?_, ?_⟩
  · rw [BitVec.msb_eq_decide, first]
    cases occupied <;>
      simp only [Bool.toNat_false, Bool.toNat_true, decide_eq_true_iff, decide_eq_false_iff_not] <;> omega
  · rw [← BitVec.toNat_inj, BitVec.toNat_setWidth, first]
    omega
  · rw [BitVec.toNat_setWidth, byteOf, BitVec.toNat_ofNat]
    omega
  · rw [byteOf, BitVec.getLsbD_ofNat, Nat.testBit_eq_decide_div_mod_eq]
    cases mirror <;> simp <;> omega
  · rw [byteOf, BitVec.getLsbD_ofNat, Nat.testBit_eq_decide_div_mod_eq]
    cases mirror <;> cases autoRecover <;> simp <;> omega

theorem sweepRecords_records (records : List SweepPosition) (h : ∀ r ∈ records, r.cellCount < 8) :
    sweepRecords (records.flatMap SweepPosition.record) = records := by
  induction records with
  | nil => rfl
  | cons r rest ih =>
    calc sweepRecords ((r :: rest).flatMap SweepPosition.record)
        = sweepRecord _ _ :: sweepRecords (rest.flatMap SweepPosition.record) := rfl
      _ = r :: rest := by
        rw [sweepRecord_record r (h r (by simp)), ih fun q hq => h q (by simp [hq])]

theorem length_records (records : List SweepPosition) :
    (records.flatMap SweepPosition.record).length = 2 * records.length := by
  induction records with
  | nil => rfl
  | cons r rest ih =>
    rw [List.flatMap_cons, List.length_append, ih, List.length_cons]
    simp only [SweepPosition.record, List.length_cons, List.length_nil]
    omega

theorem SweepPosition.acceptable_iff (r : SweepPosition) : r.acceptable = true ↔
    1 ≤ r.cellCount ∧ r.cellCount ≤ 4
      ∧ (r.occupied = true → 1 ≤ r.address.toNat ∧ r.address.toNat ≤ 62) := by
  simp only [SweepPosition.acceptable, nodeAddress, Bool.and_eq_true, Bool.or_eq_true,
    Bool.not_eq_true', decide_eq_true_iff]
  cases r.occupied <;> simp [and_comm, and_left_comm]

/-! ### Positions (2.1) -/

/-- Position `k` of a segment's list is the slot of that segment with that place in it. -/
theorem slotAtPosition_iff {g : Segment} {k : Nat} (hk : k < 32) {slot : Fin 64} :
    State.slotAtPosition g k = some slot ↔ segmentOf slot = g ∧ slot.val % 32 = k := by
  have hs := slot.isLt
  simp only [State.slotAtPosition, hk, if_true, segmentOf]
  cases g <;> simp only [index_of_lt (show k < 64 by omega), index_of_lt (show 32 + k < 64 by omega),
    Option.some.injEq, Fin.ext_iff] <;> split_ifs <;> simp <;> omega

theorem slotAtPosition_isSome (g : Segment) {k : Nat} (hk : k < 32) :
    ∃ slot, State.slotAtPosition g k = some slot := by
  cases g
  · exact ⟨⟨k, by omega⟩, (slotAtPosition_iff hk).2 ⟨by simp [segmentOf, hk], by simp; omega⟩⟩
  · exact ⟨⟨32 + k, by omega⟩, (slotAtPosition_iff hk).2 ⟨by simp [segmentOf], by simp; omega⟩⟩

/-- The records are written from position `first` on, and the rest of the list stays. -/
theorem writePositions_eq (g : Segment) (records : List SweepPosition) {first : Nat}
    (h : first + records.length ≤ 32) (sweep : Table SweepPosition 64) :
    State.writePositions sweep g first records = Table.build (loadedPosition sweep g first records) := by
  induction records generalizing first sweep with
  | nil => exact Table.ext_get fun slot => by simp [State.writePositions, loadedPosition]
  | cons r rest ih =>
    rw [List.length_cons] at h
    obtain ⟨i, hi⟩ := slotAtPosition_isSome g (show first < 32 by omega)
    obtain ⟨hseg, hplace⟩ := (slotAtPosition_iff (by omega)).1 hi
    rw [State.writePositions, hi]
    simp only
    rw [ih (by omega)]
    refine Table.ext_get fun slot => ?_
    rw [Table.get_build, Table.get_build, loadedPosition, loadedPosition, Table.get_set]
    by_cases hslot : i = slot
    · subst hslot
      simp [hseg, hplace]
    · have hne : segmentOf slot = g → slot.val % 32 ≠ first := fun hs hp => hslot <|
        Option.some.inj (hi.symm.trans ((slotAtPosition_iff (by omega)).2 ⟨hs, hp⟩))
      rw [if_neg hslot]
      by_cases hafter : segmentOf slot = g ∧ first + 1 ≤ slot.val % 32
      · obtain ⟨hs, hp⟩ := hafter
        rw [if_pos ⟨hs, hp⟩, if_pos ⟨hs, by omega⟩,
          show slot.val % 32 - first = (slot.val % 32 - (first + 1)) + 1 by omega,
          List.getElem?_cons_succ]
      · rw [if_neg hafter, if_neg fun ⟨hs, hp⟩ => hafter ⟨hs, by have := hne hs; omega⟩]

/-- Check 4 of R23: a list without duplicates is one to one on its occupied positions. -/
theorem duplicateAddress_eq_false (sweep : Table SweepPosition 64) (g : Segment) :
    State.duplicateAddress sweep g = false ↔ ∀ i j : Fin 64, segmentOf i = g → segmentOf j = g →
      (sweep.get i).occupied = true → (sweep.get j).occupied = true →
      (sweep.get i).address = (sweep.get j).address → i = j := by
  have hn : ((slotsOf g).filter (fun i => (sweep.get i).occupied)).Nodup :=
    ((slotsOf_sorted g).imp ne_of_lt).filter _
  rw [State.duplicateAddress, Bool.not_eq_false', decide_eq_true_iff, List.filter_map, List.map_map]
  refine (List.nodup_map_iff_inj_on hn).trans ?_
  simp only [List.mem_filter, mem_slotsOf, Function.comp_apply]
  exact ⟨fun h i j hi hj oi oj => h i ⟨hi, oi⟩ j ⟨hj, oj⟩,
    fun h i ⟨hi, oi⟩ j ⟨hj, oj⟩ => h i j hi hj oi oj⟩

/-! ### The request -/

variable {s : State} {tag : Byte}

theorem exec_loadSweepList (h : s.TakesAtOnce) (code first : Byte) {records : List SweepPosition}
    (hpos : 1 ≤ records.length) (hmax : records.length ≤ 16) :
    exec (.loadSweepList tag ([code, first] ++ records.flatMap SweepPosition.record)) s =
      .next (State.reply tag .loadSweepList (s.requestLoadSweepList
        (RequestCode.loadSweepList.code :: ([code, first] ++ records.flatMap SweepPosition.record)))) :=
  exec_command_fits h .loadSweepList (by decide) <| (RequestCode.fits_iff _ _).2
    ⟨records.length, hpos, hmax, by rw [List.length_append, length_records]; simp; omega⟩

theorem requestLoadSweepList_no_segment {c code first : Byte} {rest : List Byte} (h : 1 < code.toNat) :
    s.requestLoadSweepList (c :: ([code, first] ++ rest)) = s.refuse .badValue := by
  simp [State.requestLoadSweepList, ofCode_eq_none.2 h]

/-- The checks on a LOAD SWEEP LIST of a segment, in the order of R23. -/
theorem requestLoadSweepList_eq (c : Byte) (g : Segment) {first : Nat} {records : List SweepPosition}
    (hf : first < 256) (hc : ∀ r ∈ records, r.cellCount < 8) :
    s.requestLoadSweepList
        (c :: ([byteOf g.code, byteOf first] ++ records.flatMap SweepPosition.record)) =
      if 32 < first + records.length then s.refuse .noSuch
      else if records.all SweepPosition.acceptable = false then s.refuse .badValue
      else if State.duplicateAddress (Table.build (loadedPosition s.staged.sweep g first records)) g = true then
        s.refuse .badValue
      else ({ s with staged := { s.staged with
        sweep := Table.build (loadedPosition s.staged.sweep g first records) } } : State).done := by
  simp only [State.requestLoadSweepList, List.cons_append, List.nil_append, List.drop_succ_cons,
    List.drop_zero, byteAt_succ, byteAt_zero, ofCode_byteOf, toNat_byteOf hf, sweepRecords_records _ hc,
    Bool.not_eq_true', Nat.lt_sub_iff_add_lt]
  by_cases hlen : 32 < first + records.length
  · rw [if_pos hlen, if_pos hlen]
  · rw [if_neg hlen, if_neg hlen, writePositions_eq g records (Nat.not_lt.1 hlen)]

/-- Settles O13, check by check of R23. -/
theorem loadSweepListStoresRecords : Obligations.LoadSweepListStoresRecords := by
  intro s tag g first records h hpos hmax hf hc
  have request := requestLoadSweepList_eq (s := s) RequestCode.loadSweepList.code g hf hc
  have distinct := duplicateAddress_eq_false
    (Table.build (loadedPosition s.staged.sweep g first records)) g
  have acceptable : records.all SweepPosition.acceptable = true ↔ ∀ r ∈ records, 1 ≤ r.cellCount
      ∧ r.cellCount ≤ 4 ∧ (r.occupied = true → 1 ≤ r.address.toNat ∧ r.address.toNat ≤ 62) := by
    simp only [List.all_eq_true, SweepPosition.acceptable_iff]
  simp only [Table.get_build] at distinct
  simp only [exec_loadSweepList h _ _ hpos hmax, request, ← acceptable, ← distinct]
  refine ⟨fun hlen ha hd => ?_, fun hlen => ?_, fun hlen ha => ?_, fun hlen ha hd => ?_,
    fun code hcode => ?_⟩
  · rw [if_neg (Nat.not_lt.2 hlen), ha, if_neg nofun, hd, if_neg nofun, State.reply_staged]
    rfl
  · rw [if_pos hlen, State.reply_refuse]
    rfl
  · rw [if_neg (Nat.not_lt.2 hlen), if_pos (Bool.not_eq_true _ ▸ ha), State.reply_refuse]
    rfl
  · rw [if_neg (Nat.not_lt.2 hlen), ha, if_neg nofun, if_pos (Bool.not_eq_false _ ▸ hd),
      State.reply_refuse]
    rfl
  · rw [requestLoadSweepList_no_segment hcode, State.reply_refuse]
    rfl

end Sys2Proof.Machine
end

section
/-! Resolution (O15): the cells in their order, the lane that captures a cell, the lists and the changed slots. -/

namespace Sys2Proof.Machine

variable (image : Image)

/-! ### The cells of an image, in resolution order (R27) -/

/-- The cells of one slot: none where it is not occupied. -/
theorem mem_slotCells {slot : Fin 64} {r : CellRef} :
    (r ∈ if (image.sweep.get slot).occupied then
        ((List.finRange 4).filter (fun k => k.val < (image.sweep.get slot).cellCount)).map (CellRef.mk slot)
      else []) ↔
      r.slot = slot ∧ (image.sweep.get slot).occupied = true
        ∧ r.cell.val < (image.sweep.get slot).cellCount := by
  obtain ⟨i, k⟩ := r
  split_ifs with ho
  · simp [ho, and_comm, eq_comm]
  · simp [ho]

theorem Image.mem_cells (r : CellRef) : r ∈ image.cells ↔
    (image.sweep.get r.slot).occupied = true ∧ r.cell.val < (image.sweep.get r.slot).cellCount := by
  simp only [Image.cells, List.mem_flatMap, List.mem_finRange, true_and, mem_slotCells]
  exact ⟨fun ⟨_, h, ho, hk⟩ => h ▸ ⟨ho, hk⟩, fun ⟨ho, hk⟩ => ⟨_, rfl, ho, hk⟩⟩

theorem Image.cells_sorted : image.cells.Pairwise
    (fun r q => r.slot < q.slot ∨ (r.slot = q.slot ∧ r.cell < q.cell)) := by
  rw [Image.cells, List.pairwise_flatMap]
  refine ⟨fun slot _ => ?_, (List.pairwise_lt_finRange 64).imp fun {i j} hij r hr q hq => .inl ?_⟩
  · simp only
    split
    · exact List.Pairwise.map _ (fun a b hab => .inr ⟨rfl, hab⟩)
        ((List.pairwise_lt_finRange 4).filter _)
    · exact .nil
  · rwa [((mem_slotCells image).1 hr).1, ((mem_slotCells image).1 hq).1]

/-! ### The lane that captures a cell (R26, R27) -/

/-- Addresses that agree under a mask agree at each bit of it. -/
theorem and_eq_and_iff (a b m : BitVec 6) :
    a &&& m = b &&& m ↔ ∀ i < 6, m.getLsbD i = true → a.getLsbD i = b.getLsbD i := by
  rw [BitVec.eq_of_getLsbD_eq_iff]
  refine forall₂_congr fun i _ => ?_
  rw [BitVec.getLsbD_and, BitVec.getLsbD_and]
  cases m.getLsbD i <;> simp

theorem CaptureEntry.matches_iff (r : CellRef) (e : CaptureEntry) :
    e.matches image.masks (segmentOf r.slot) (image.sweep.get r.slot).address r.cell = true ↔
      CaptureEntry.Takes image r e := by
  simp only [CaptureEntry.matches, CaptureEntry.Takes, Bool.and_eq_true, Bool.or_eq_true,
    Bool.not_eq_true', beq_iff_eq, and_eq_and_iff, and_assoc]
  refine and_congr_right fun _ => ?_
  cases (image.masks.get e.mask).compareSegment <;> cases (image.masks.get e.mask).compareCell <;> simp

/-- The first record of a table with a property. -/
theorem find?_toList_eq_some {α : Type} {n : Nat} {t : Table α n} {p : α → Bool} {x : α} :
    t.toList.find? p = some x ↔
      ∃ i, t.get i = x ∧ p (t.get i) = true ∧ ∀ j < i, ¬ p (t.get j) = true := by
  rw [List.find?_eq_some_iff_getElem]
  constructor
  · rintro ⟨hp, k, hk, rfl, hlow⟩
    refine ⟨⟨k, t.size_eq ▸ hk⟩, rfl, hp, fun j hj => ?_⟩
    simpa [Table.get] using hlow j.val hj
  · rintro ⟨i, rfl, hp, hlow⟩
    refine ⟨hp, i.val, t.size_eq.symm ▸ i.isLt, rfl, fun j hj => ?_⟩
    simpa [Table.get] using hlow ⟨j, hj.trans i.isLt⟩ hj

theorem Image.captor_eq_some (r : CellRef) (n : Fin 128) : image.captor r = some n ↔
    ∃ e : Fin 64, (image.captures.get e).lane = n
      ∧ CaptureEntry.Takes image r (image.captures.get e)
      ∧ ∀ e' : Fin 64, e' < e → ¬ CaptureEntry.Takes image r (image.captures.get e') := by
  simp only [Image.captor, Option.map_eq_some_iff, find?_toList_eq_some, CaptureEntry.matches_iff]
  constructor
  · rintro ⟨_, ⟨e, rfl, ht, hlow⟩, hl⟩
    exact ⟨e, hl, ht, hlow⟩
  · rintro ⟨e, hl, ht, hlow⟩
    exact ⟨_, ⟨e, rfl, ht, hlow⟩, hl⟩

/-! ### Lists and overflow (R27) -/

/-- The cells among those visited that the lane captures. -/
def Image.offered (visited : List CellRef) (n : Fin 128) : List CellRef :=
  visited.filter (fun r => image.captor r == some n)

theorem Image.offered_append_self {r : CellRef} {n : Fin 128} (h : image.captor r = some n)
    (visited : List CellRef) : image.offered (visited ++ [r]) n = image.offered visited n ++ [r] := by
  simp [Image.offered, h]

theorem Image.offered_append_other {r : CellRef} {n : Fin 128} (h : image.captor r ≠ some n)
    (visited : List CellRef) : image.offered (visited ++ [r]) n = image.offered visited n := by
  simp [Image.offered, h]

/-- The lists hold the first four cells offered to each lane, and its flag says whether there were more. -/
structure Building.Resolved (visited : List CellRef) (b : Building) : Prop where
  lists : ∀ n, b.lists.get n = (image.offered visited n).take 4
  overflow : ∀ n, b.overflow.get n = true ↔ 4 < (image.offered visited n).length

theorem Building.Resolved.visit {image : Image} {visited : List CellRef} {b : Building}
    (h : b.Resolved image visited) (r : CellRef) :
    (b.visit image r).Resolved image (visited ++ [r]) := by
  unfold Building.visit
  split
  · rename_i hr
    have hsame n := image.offered_append_other (r := r) (n := n) (by simp [hr]) visited
    exact ⟨fun n => by rw [hsame, h.lists], fun n => by rw [hsame, h.overflow]⟩
  · rename_i n hr
    have hself := image.offered_append_self hr visited
    have hother {m : Fin 128} (hm : n ≠ m) :=
      image.offered_append_other (r := r) (n := m) (by simp [hr, hm]) visited
    rw [h.lists n, List.length_take, Config.laneCells]
    split_ifs with hlen
    · have hroom : (image.offered visited n).length < 4 := by omega
      refine ⟨fun m => ?_, fun m => ?_⟩
      · rw [Table.get_modify]
        split_ifs with hm
        · subst hm
          rw [hself, h.lists, List.take_of_length_le hroom.le, List.take_of_length_le (by simp; omega)]
        · rw [hother hm, h.lists]
      · rw [h.overflow]
        by_cases hm : n = m
        · subst hm
          rw [hself, List.length_append, List.length_singleton]
          omega
        · rw [hother hm]
    · have hfull : 4 ≤ (image.offered visited n).length := by omega
      refine ⟨fun m => ?_, fun m => ?_⟩
      · rw [h.lists]
        by_cases hm : n = m
        · subst hm
          rw [hself, List.take_append_of_le_length hfull]
        · rw [hother hm]
      · rw [Table.get_set]
        split_ifs with hm
        · subst hm
          rw [hself, List.length_append, List.length_singleton]
          exact iff_of_true rfl (by omega)
        · rw [hother hm, h.overflow]

theorem Building.resolved_foldl (cells : List CellRef) :
    (cells.foldl (Building.visit image) ⟨.const 128 [], .const 128 false⟩).Resolved image cells := by
  induction cells using List.reverseRecOn with
  | nil => exact ⟨fun n => by simp [Image.offered], fun n => by simp [Image.offered]⟩
  | append_singleton visited r ih =>
    rw [List.foldl_append]
    exact ih.visit r

/-! ### Changed slots (R28) -/

theorem slotChanged_iff (old new : SweepPosition) : slotChanged old new = true ↔
    old.occupied ≠ new.occupied
      ∨ (old.occupied = true ∧ new.occupied = true ∧ old.address ≠ new.address) := by
  rw [slotChanged]
  cases old.occupied <;> cases new.occupied <;> simp

/-- Settles O15: cells, captors, lists, overflow flags and changed slots in turn. -/
theorem resolutionFollowsCellOrder : Obligations.ResolutionFollowsCellOrder := by
  intro staged active
  have h := Building.resolved_foldl staged staged.cells
  refine ⟨staged.mem_cells, staged.cells_sorted, staged.captor_eq_some, h.lists, h.overflow,
    fun i => ?_⟩
  rw [resolve, Table.get_zipWith]
  exact slotChanged_iff _ _

end Sys2Proof.Machine
end

section
/-! Completion of a COMMIT (O16): the counts of its REPLY, the slot changes, and each lane with its new list. -/

namespace Sys2Proof.Machine

/-! ### Counts (R30) -/

theorem count_id_eq_length {n : Nat} (t : Table Bool n) :
    t.count id = ((List.finRange n).filter t.get).length := by
  conv_lhs => rw [← Table.build_get t]
  rw [Table.count, Table.build, List.countP_map, List.countP_eq_length_filter]
  rfl

/-- A count is the length of any list that holds each counted index once. -/
theorem length_eq_count_id {n : Nat} {t : Table Bool n} {l : List (Fin n)} (hl : l.Nodup)
    (h : ∀ i, i ∈ l ↔ t.get i = true) : l.length = t.count id := by
  rw [count_id_eq_length]
  refine ((List.perm_ext_iff_of_nodup hl ((List.nodup_finRange n).filter _)).2 fun i => ?_).length_eq
  rw [h, List.mem_filter]
  exact ⟨fun hi => ⟨List.mem_finRange i, hi⟩, fun hi => hi.2⟩

theorem listChanged_iff (changed : Table Bool 64) (l : Lane) (new : List CellRef) :
    listChanged changed l.refs new = true ↔ l.cells.map LaneCell.ref ≠ new
      ∨ (∃ c ∈ l.cells, changed.get c.ref.slot = true) ∨ ∃ c ∈ new, changed.get c.slot = true := by
  simp [listChanged, Lane.refs, or_assoc]

/-! ### The slot changes (R28) -/

/-- What the change of one slot makes of a relay queue, if the slot is selected. -/
theorem loseRelays_if (c : Bool) (address : BitVec 6) (rs : List Relay) :
    (if c then loseRelays address rs else rs) = rs.map (fun x =>
      if x.outcome = none ∧ c = true ∧ address = x.address then { x with outcome := some .noNode }
      else x) := by
  cases c
  · simp
  · simp [loseRelays_eq, relaysLost, eq_comm (a := address)]

/-- Slot by slot, the open relays for the addresses of the selected slots end with NO_NODE. -/
theorem foldl_loseRelays (p : Fin 64 → Bool) (address : Fin 64 → BitVec 6) (slots : List (Fin 64))
    (rs : List Relay) :
    slots.foldl (fun rs i => if p i then loseRelays (address i) rs else rs) rs = rs.map (fun x =>
      if x.outcome = none ∧ ∃ i ∈ slots, p i = true ∧ address i = x.address then
        { x with outcome := some .noNode }
      else x) := by
  induction slots generalizing rs with
  | nil => simp
  | cons i rest ih =>
    rw [List.foldl_cons, ih, loseRelays_if, List.map_map]
    refine List.map_congr_left fun x _ => ?_
    by_cases hi : x.outcome = none ∧ p i = true ∧ address i = x.address
    · simp [hi]
    · have hrest : (x.outcome = none ∧ ∃ j ∈ i :: rest, p j = true ∧ address j = x.address) ↔
          x.outcome = none ∧ ∃ j ∈ rest, p j = true ∧ address j = x.address := by
        simp only [List.exists_mem_cons_iff]
        tauto
      simp only [Function.comp_apply, if_neg hi, hrest]

namespace State

variable {s : State} (changed : Table Bool 64) (old : Image)

theorem changeSlots_node (i : Fin 64) : (s.changeSlots changed old).nodes.get i =
    if changed.get i then (s.nodes.get i).reset else s.nodes.get i := by
  simp [changeSlots]

theorem changeSlots_sequence (i : Fin 64) : (s.changeSlots changed old).sequences.get i =
    if changed.get i then none else s.sequences.get i := by
  simp [changeSlots]

theorem changeSlots_sweep (g : Segment) : (s.changeSlots changed old).sweep g = { s.sweep g with
    visit := (s.sweep g).visit.map (fun v => { v with changed := v.changed || changed.get v.slot })
    relays := (s.sweep g).relays.map (fun x =>
      if x.outcome = none ∧ ∃ i : Fin 64, segmentOf i = g ∧ changed.get i = true
        ∧ (old.sweep.get i).occupied = true ∧ (old.sweep.get i).address = x.address
      then { x with outcome := some .noNode } else x) } := by
  have unfolded : (s.changeSlots changed old).sweep g = { s.sweep g with
      visit := (s.sweep g).visit.map (fun v => { v with changed := v.changed || changed.get v.slot })
      relays := (slotsOf g).foldl (fun rs i =>
        if changed.get i && (old.sweep.get i).occupied then loseRelays (old.sweep.get i).address rs
        else rs) (s.sweep g).relays } := by
    cases g <;> rfl
  rw [unfolded, foldl_loseRelays (fun i => changed.get i && (old.sweep.get i).occupied)
    (fun i => (old.sweep.get i).address)]
  simp only [mem_slotsOf, Bool.and_eq_true, and_assoc]

end State

/-! ### A lane with its new list (R29) -/

/-- A lane whose list is changed, as R29 enters it: of the nodes of changed slots, all ACTIVE by now, none is
lost. -/
theorem Lane.install_entered {nodes nodes' : Table Node 64} {changed : Table Bool 64} {l : Lane}
    (hl : l.BoundByState) (hn : ∀ i, (nodes'.get i).state =
      if changed.get i then .active else (nodes.get i).state) (new : List CellRef) :
    l.install nodes' new = (
      if l.config.enabled = true ∧ new ≠ [] then
        if ∃ c ∈ new, changed.get c.slot = false
            ∧ ((nodes.get c.slot).state = .cutOff ∨ (nodes.get c.slot).state = .absent)
        then (l.relisted new).wentBlind else (l.relisted new).wentAcquiring
      else if l.state = .unbound then l.relisted new
      else (l.relisted new).wentUnbound).doubted nodes' := by
  have hbound : (l.relisted new).bound = true ↔ l.config.enabled = true ∧ new ≠ [] := by
    rw [Lane.bound_eq_refs, Lane.relisted_refs, (l.relisted_leaves new).enabled]
    simp
  have hlost : (l.relisted new).feedLost nodes' = true ↔ ∃ c ∈ new, changed.get c.slot = false
      ∧ ((nodes.get c.slot).state = .cutOff ∨ (nodes.get c.slot).state = .absent) := by
    conv_rhs => rw [← l.relisted_refs new]
    simp only [Lane.feedLost_iff, Lane.refs, List.mem_map, exists_exists_and_eq_and, hn]
    refine exists_congr fun c => and_congr_right fun _ => ?_
    cases changed.get c.ref.slot <;> simp
  have hwas : l.bound = true ↔ ¬ l.state = .unbound := hl
  rw [Lane.install_eq, Lane.setDoubt_eq, Lane.enterBound]
  simp only [hbound, hlost, hwas, ite_not]
  rfl

/-- Only the states of the nodes decide what a lane is told of its feed. -/
theorem Lane.doubted_congr {nodes nodes' : Table Node 64}
    (h : ∀ i, (nodes'.get i).state = (nodes.get i).state) (l : Lane) :
    l.doubted nodes' = l.doubted nodes := by
  simp only [Lane.doubted, h]

/-! ### The completed event -/

namespace State

/-- The closing of an event keeps the rhythm of the beacons it began with. -/
theorem close_rhythm (before after : State) :
    rhythmKept after.notice.beacons (close before after).notice.beacons := by
  have h : (settleNotices before after).notice.beacons = after.notice.beacons := by
    have frame := (leaveQueue_frame { after with
      lanes := Table.zipWith (Lane.settleDue after.now) before.lanes after.lanes
      nodes := Table.zipWith (Node.settleDue after.now) before.nodes after.nodes }
        (Subject.all.filter (fun x => before.kindPending x && !after.kindPending x))).trans
      (joinAll_frame (Subject.all.filter (fun x => !before.kindPending x && after.kindPending x)) _)
    rw [settleNotices]
    exact congrArg (fun u => u.notice.beacons) frame
  rw [← h]
  exact refreshBeacons_rhythm _

variable {s : State} (r : Resolution)

/-- The station with the staged image active and the slot changes of R28 made. -/
def slotsChanged (s : State) (r : Resolution) : State :=
  ({ s with active := s.staged } : State).changeSlots r.changed s.active

/-- The station before the event of a completion closes: after R28, each lane as R29 leaves it. -/
def lanesInstalled (s : State) (r : Resolution) : State :=
  { s.slotsChanged r with lanes := Table.build (fun n =>
      s.judge (s.lanes.get n) ((s.lanes.get n).complete (s.slotsChanged r).nodes r.changed
        (r.lists.get n) (r.overflow.get n))) }

theorem installResolution_eq : s.installResolution r = close s (s.lanesInstalled r) := rfl

theorem installResolution_node (i : Fin 64) : (s.installResolution r).nodes.get i =
    Node.settleDue s.backbone.clock (s.nodes.get i)
      (if r.changed.get i then (s.nodes.get i).reset else s.nodes.get i) := by
  rw [installResolution_eq, close_node]
  exact congrArg _ (changeSlots_node r.changed s.active i)

theorem installResolution_state (i : Fin 64) : ((s.installResolution r).nodes.get i).state =
    ((s.slotsChanged r).nodes.get i).state := by
  rw [installResolution_eq, close_node, Node.settleDue_state]
  rfl

theorem installResolution_sequence (i : Fin 64) : (s.installResolution r).sequences.get i =
    if r.changed.get i then none else s.sequences.get i := by
  rw [installResolution_eq, close_sequences]
  exact changeSlots_sequence r.changed s.active i

theorem installResolution_sweep (g : Segment) : (s.installResolution r).sweep g =
    (s.slotsChanged r).sweep g := by
  rw [installResolution_eq, close_sweep]
  cases g <;> rfl

theorem installResolution_lane (n : Fin 128) : (s.installResolution r).lanes.get n =
    Lane.settleDue s.backbone.clock (s.lanes.get n) (s.agreed (s.lanes.get n)
      ((s.lanes.get n).complete (s.slotsChanged r).nodes r.changed (r.lists.get n)
        (r.overflow.get n))) := by
  rw [installResolution_eq, close_lane, lanesInstalled, Table.get_build]
  rfl

theorem slotsChanged_state (i : Fin 64) : ((s.slotsChanged r).nodes.get i).state =
    if r.changed.get i then .active else (s.nodes.get i).state := by
  rw [slotsChanged, changeSlots_node]
  split_ifs <;> rfl

/-- The station when the resolution in flight has completed and its COMMIT is answered (R30). -/
def completed (s : State) (tag : Byte) (r : Resolution) : State :=
  { s.installResolution r with mgmt := { s.mgmt with
      engine := .idle
      reply := some ⟨tag, [0x14, 0x00, byteOf (s.lanesChanged r), byteOf (r.overflow.count id)]⟩ } }

theorem exec_resolutionCompletes {tag : Byte} (h : s.mgmt.engine = .committing tag r) :
    exec .resolutionCompletes s = .next (s.completed tag r) := by
  have hm : (s.installResolution r).mgmt = s.mgmt := close_mgmt _ _
  simp only [exec, execResolutionCompletes, h, completed, putReply, hm]
  rfl

end State

/-- Settles O16: the answer's counts, the slot changes and the nodes, the sweep engines, and each lane. -/
theorem completionInstallsResolution : Obligations.CompletionInstallsResolution := by
  intro s tag r he hs changed
  have hchanged (n : Fin 128) :
      listChanged r.changed (s.lanes.get n).refs (r.lists.get n) = true ↔ changed n :=
    listChanged_iff _ _ _
  refine ⟨s.completed tag r, State.exec_resolutionCompletes r he, ?_, ?_, ?_, ?_, ?_,
    ⟨s.lanesChanged r, r.overflow.count id, rfl, fun l hl hmem => ?_, fun l hl hmem => ?_⟩,
    ?_, State.close_follow s (s.lanesInstalled r),
    State.close_rhythm s (s.lanesInstalled r), fun i hi => ⟨?_, ?_⟩, fun i hi => ⟨?_, ?_⟩,
    fun g => ?_, fun n => ?_⟩
  · exact State.close_pending _ _
  · exact State.close_backbone _ _
  · exact State.close_active _ _
  · exact State.close_staged _ _
  · exact State.close_nextAcceptance _ _
  · exact length_eq_count_id hl fun n => by rw [hmem, Table.get_zipWith, hchanged]
  · exact length_eq_count_id hl hmem
  · exact State.close_notice s (s.lanesInstalled r)
  · exact (s.installResolution_sequence r i).trans (if_pos hi)
  · refine (State.installResolution_node r i).trans ?_
    rw [if_pos hi]
    rfl
  · refine (State.installResolution_sequence r i).trans ?_
    rw [hi, if_neg nofun]
  · refine (State.installResolution_node r i).trans ?_
    rw [hi, if_neg nofun, Node.settleDue_self]
  · exact (State.installResolution_sweep r g).trans (State.changeSlots_sweep r.changed s.active g)
  · intro l new stored entered
    refine ⟨if listChanged r.changed l.refs new then l.install (s.slotsChanged r).nodes new else l,
      fun hc => ?_, fun hc => ?_, State.installResolution_lane r n⟩
    · rw [if_pos ((hchanged n).2 hc), Lane.install_entered (hs.sound n).bound (s.slotsChanged_state r)]
      exact (Lane.doubted_congr (State.installResolution_state r) _).symm
    · rw [if_neg (mt (hchanged n).1 hc)]

end Sys2Proof.Machine
end

section
/-! Rounding half away from zero (R37), the conversion that uses it (R32), and the count estimate and its
verdict (R45 to R48). -/

namespace Sys2Proof.Machine

/-! ### Rounding (R37) -/

/-- Of the whole numbers `q` is nearest to `a / b`, and of two nearest the one of greater magnitude. -/
def NearestAway (a q : Int) (b : Nat) : Prop :=
  2 * (a - q * b).natAbs ≤ b ∧ (2 * (a - q * b).natAbs = b → a.natAbs < q.natAbs * b)

theorem NearestAway.neg {a q : Int} {b : Nat} (h : NearestAway a q b) : NearestAway (-a) (-q) b := by
  have hdiff : (-a - -q * b).natAbs = (a - q * b).natAbs := by
    rw [← Int.natAbs_neg]
    congr 1
    ring
  simpa only [NearestAway, hdiff, Int.natAbs_neg] using h

/-- On a natural dividend the result is the magnitude of R37. -/
theorem roundDiv_natCast (m b : Nat) :
    roundDiv m b = ((if b ≤ 2 * (m % b) then m / b + 1 else m / b : Nat) : Int) := by
  simp [roundDiv]

theorem roundDiv_zero {b : Nat} (hb : 0 < b) : roundDiv 0 b = 0 := by
  simp [roundDiv, hb.ne']

theorem roundDiv_nonneg {a : Int} (ha : 0 ≤ a) (b : Nat) : 0 ≤ roundDiv a b := by
  lift a to Nat using ha
  exact roundDiv_natCast a b ▸ Int.natCast_nonneg _

/-- The result carries the sign of the dividend. -/
theorem roundDiv_neg (a : Int) {b : Nat} (hb : 0 < b) : roundDiv (-a) b = -roundDiv a b := by
  rcases lt_trichotomy a 0 with ha | rfl | ha
  · simp [roundDiv, ha, ha.not_gt]
  · simp [roundDiv_zero hb]
  · simp [roundDiv, ha, ha.not_gt]

theorem nearestAway_roundDiv_natCast (m : Nat) {b : Nat} (hb : 0 < b) :
    NearestAway m (roundDiv m b) b := by
  have hm : (m : Int) = (m / b : Nat) * (b : Int) + (m % b : Nat) := mod_cast (Nat.div_add_mod' m b).symm
  have hr : m % b < b := Nat.mod_lt m hb
  rw [roundDiv_natCast]
  split_ifs with hup
  · have hdiff : (m : Int) - (m / b + 1 : Nat) * (b : Int) = (m % b : Nat) - (b : Int) := by
      push_cast at hm ⊢
      linarith
    refine ⟨by omega, fun _ => ?_⟩
    rw [Int.natAbs_natCast, Int.natAbs_natCast, mul_comm]
    exact Nat.lt_mul_div_succ m hb
  · have hdiff : (m : Int) - (m / b : Nat) * (b : Int) = (m % b : Nat) := by linarith
    exact ⟨by omega, by omega⟩

theorem nearestAway_roundDiv (a : Int) {b : Nat} (hb : 0 < b) : NearestAway a (roundDiv a b) b := by
  obtain ⟨m, rfl | rfl⟩ := a.eq_nat_or_neg
  · exact nearestAway_roundDiv_natCast m hb
  · rw [roundDiv_neg _ hb]
    exact (nearestAway_roundDiv_natCast m hb).neg

/-! ### The status of a converted value (R32) -/

section Status
variable (k : Calibration) (raw : Int)

theorem convert_valid_status : (convert k ⟨raw, .valid⟩).status =
    if -2000000 ≤ (convert k ⟨raw, .valid⟩).grams ∧ (convert k ⟨raw, .valid⟩).grams ≤ 2000000
    then .valid else .overload := by
  simp only [convert, Bool.and_eq_true, decide_eq_true_eq]
  rfl

/-- A status other than VALID is stored as the node reported it. -/
theorem convert_status_of_ne_valid {status : CellStatus} (h : status ≠ .valid) :
    (convert k ⟨raw, status⟩).status = status := by
  cases status
  case valid => exact absurd rfl h
  all_goals rfl

end Status

/-- Settles O51: the rounding is nearest and follows the dividend's sign, and the status is decided by the
one reported. -/
theorem roundingAndConversion : Obligations.RoundingAndConversion := by
  refine ⟨fun a b hb => ?_, fun k raw status => ⟨rfl, ?_⟩⟩
  · obtain ⟨hnear, htie⟩ := nearestAway_roundDiv a hb
    exact ⟨hnear, htie, roundDiv_neg a hb⟩
  · by_cases h : status = .valid
    · subst h
      rw [convert_valid_status]
      split_ifs with hin <;> simp [hin]
    · rw [convert_status_of_ne_valid k raw h]
      simp [h]

/-! ### The count estimate (R45 to R48) -/

section Estimate
variable {c : LaneConfig} {w : Int}

theorem estimate_of_nonpos (h : w - c.tare ≤ 0) :
    estimate c w = ⟨0, decide ((w - c.tare).natAbs ≤ c.tolFixed)⟩ := by
  simp [estimate, h]

theorem estimate_of_le (h : 0 < w - c.tare) (hn : roundDiv (w - c.tare) c.unitWeight ≤ 4095) :
    estimate c w = ⟨(roundDiv (w - c.tare) c.unitWeight).toNat,
      decide ((w - c.tare - roundDiv (w - c.tare) c.unitWeight * c.unitWeight).natAbs ≤
        c.tolFixed + (roundDiv (w - c.tare) c.unitWeight).toNat * c.tolUnit)⟩ := by
  have hq : ((roundDiv (w - c.tare) c.unitWeight).toNat : Int) = roundDiv (w - c.tare) c.unitWeight :=
    Int.toNat_of_nonneg (roundDiv_nonneg h.le _)
  have hcap : (roundDiv (w - c.tare) c.unitWeight).toNat ≤ Config.maxCount := by
    simpa [Config.maxCount] using hn
  simp [estimate, h.not_ge, hcap, hq]

theorem estimate_of_gt (h : 0 < w - c.tare) (hn : 4095 < roundDiv (w - c.tare) c.unitWeight) :
    estimate c w = ⟨4095, false⟩ := by
  have hcap : Config.maxCount < (roundDiv (w - c.tare) c.unitWeight).toNat := by
    rw [Config.maxCount]
    omega
  simp [estimate, h.not_ge, hcap.not_ge, hcap.le]
  rfl

end Estimate

/-- Settles O53, by the three ranges of the net weight and its quotient. -/
theorem estimateIsFitWithinTolerance : Obligations.EstimateIsFitWithinTolerance := by
  intro c w _ net n
  refine ⟨fun hnet => ?_, fun hnet hn => ?_, fun hnet hn => ?_⟩
  · simp only [n, estimate_of_nonpos hnet, decide_eq_true_eq, true_and]
    omega
  · have hq : (n : Int) = roundDiv net c.unitWeight := by
      simp only [n, estimate_of_le hnet hn]
      exact Int.toNat_of_nonneg (roundDiv_nonneg hnet.le _)
    refine ⟨hq, ?_⟩
    rw [hq]
    simp [n, estimate_of_le hnet hn, net]
  · simp only [n, estimate_of_gt hnet hn, and_self]

end Sys2Proof.Machine
end

section
/-! Agreement after an event on a lane (O40): the freeze causes, the triggers, and the one evaluation. -/

namespace Sys2Proof.Machine

/-- The freeze causes (R69). -/
theorem Lane.frozen_iff {hold : Bool} {l : Lane} : l.frozen hold = true ↔
    l.replenishDeadline.isSome = true ∨ hold = true ∨ l.state = .acquiring := by
  simp [Lane.frozen, or_assoc]

theorem LaneState.judged_iff_or (x : LaneState) :
    x.judged = true ↔ x = .steady ∨ x = .moving ∨ x = .suspect ∨ x = .blind := by
  cases x <;> simp [LaneState.judged]

/-- The triggers of an evaluation (R66, R67, R70). -/
theorem Lane.triggered_iff {hold : Bool} {l k : Lane} : Lane.triggered hold l k = true ↔
    (k.band ≠ l.band ∧ k.state ≠ .unbound) ∨ (l.frozen hold = true ∧ k.state.judged = true)
      ∨ (l.state = .unbound ∧ k.state = .blind) := by
  simp [Lane.triggered, or_assoc, ne_comm (a := l.band)]

section Judge
variable {groups : Table Group 16} {now : Clock} {hold hold' : Bool} {l k : Lane}

theorem Lane.judge_of_frozen (h : k.frozen hold' = true) : Lane.judge groups now hold hold' l k = k := by
  rw [Lane.judge, if_pos h]

theorem Lane.judge_of_not_triggered (h : ¬ Lane.triggered hold l k = true) :
    Lane.judge groups now hold hold' l k = k := by
  rw [Lane.judge, if_neg h, ite_self]

/-- A trigger that finds the lane unfrozen brings the evaluation that a freeze end brings (R66, R70). -/
theorem Lane.judge_of_triggered (hf : ¬ k.frozen hold' = true) (ht : Lane.triggered hold l k = true) :
    Lane.judge groups now hold hold' l k = k.freezeEnded (groups.get k.config.group) now := by
  rw [Lane.judge, if_neg hf, if_pos ht, Lane.evaluateRaising_eq]

end Judge

section Evaluation
variable {g : Group} {now : Clock} {l : Lane}

theorem Lane.freezeEnded_of_eq (h : l.band = l.refBand) : l.freezeEnded g now = { l with agree := true } := by
  simp [Lane.freezeEnded, h]

/-- Agreement that was no already raises nothing (R66). -/
theorem Lane.freezeEnded_of_disagree (h : l.band ≠ l.refBand) (ha : l.agree = false) :
    l.freezeEnded g now = l := by
  rw [Lane.freezeEnded, if_neg (by simp [ha]), beq_eq_false_iff_ne.2 h, ← ha]

theorem Lane.freezeEnded_of_change (h : l.band ≠ l.refBand) (ha : l.agree = true) :
    l.freezeEnded g now = l.raised g now := by
  rw [Lane.freezeEnded, if_pos ⟨ha, h⟩]

end Evaluation

/-- Settles O40: no evaluation on a frozen lane or without a trigger, and otherwise one, by the two bands and
the agreement before it. -/
theorem agreementIsJudgedOnce : Obligations.AgreementIsJudgedOnce := by
  intro groups now hold hold' l k
  simp only [← Lane.frozen_iff, ← LaneState.judged_iff_or, ← Lane.triggered_iff]
  refine ⟨?_, fun hf ht => ?_⟩
  · rintro (hf | ht)
    · exact Lane.judge_of_frozen hf
    · exact Lane.judge_of_not_triggered ht
  · rw [Lane.judge_of_triggered hf ht]
    exact ⟨Lane.freezeEnded_of_eq, Lane.freezeEnded_of_disagree, Lane.freezeEnded_of_change⟩

end Sys2Proof.Machine
end

section
/-! The band of a count (O54): which bands some count has, and the highest band that a rise reaches. -/

namespace Sys2Proof.Machine

/-- The bands of the counts (R60): with the marks in order, each band that the model calls non-empty is the
raw band of some count. -/
theorem Band.nonEmpty_iff {c : LaneConfig} (h : c.criticalMark ≤ c.lowMark) (x : Band) :
    x.nonEmpty c = true ↔ x ≠ .unknown ∧ ∃ m, rawBand c m = x := by
  cases x with
  | empty => exact iff_of_true rfl ⟨nofun, 0, rfl⟩
  | critical =>
    rw [Band.nonEmpty, decide_eq_true_iff]
    refine ⟨fun hc => ⟨nofun, 1, by simp [rawBand, hc]⟩, fun ⟨_, m, hm⟩ => ?_⟩
    unfold rawBand at hm
    split_ifs at hm
    omega
  | low =>
    rw [Band.nonEmpty, decide_eq_true_iff]
    refine ⟨fun hc => ⟨nofun, c.lowMark, ?_⟩, fun ⟨_, m, hm⟩ => ?_⟩
    · simp [rawBand, hc, Nat.ne_of_gt (Nat.zero_lt_of_lt hc)]
    · unfold rawBand at hm
      split_ifs at hm
      omega
  | stocked =>
    refine iff_of_true rfl ⟨nofun, c.lowMark + 1, ?_⟩
    rw [rawBand, if_neg (by omega), if_neg (by omega), if_neg (by omega)]
  | unknown => exact iff_of_false nofun fun ⟨hx, _⟩ => hx rfl

/-- What a rise may reach lies above EMPTY and is not UNKNOWN. -/
theorem Band.mem_of_qualifies {c : LaneConfig} {current x : Band} {n : Nat}
    (h : Band.qualifies c current n x = true) : x ∈ [Band.stocked, .low, .critical] := by
  cases x <;> simp [Band.qualifies, Band.nonEmpty, Band.rank] at h ⊢

/-- In a list from the highest rank down the first band that passes is the highest that does. -/
theorem Band.rank_le_of_find? {l : List Band} {p : Band → Bool} {x y : Band}
    (hl : l.Pairwise fun a b => b.rank ≤ a.rank) (hy : l.find? p = some y) (hx : x ∈ l)
    (hp : p x = true) : x.rank ≤ y.rank := by
  obtain ⟨_, before, after, rfl, hbefore⟩ := List.find?_eq_some_iff_append.1 hy
  obtain ⟨_, htail, _⟩ := List.pairwise_append.1 hl
  rcases List.mem_append.1 hx with hx | hx
  · simpa [hp] using hbefore x hx
  · rcases List.mem_cons.1 hx with rfl | hx
    · exact Nat.le_refl _
    · exact List.rel_of_pairwise_cons htail hx

/-- On a rise the new band is the highest that qualifies, and the current one if none does (R61). -/
theorem hysteresisBand_of_rise {c : LaneConfig} {current : Band} {n : Nat}
    (h : current.rank < (rawBand c n).rank) :
    (Band.qualifies c current n (hysteresisBand c current n) = true
      ∧ ∀ x, Band.qualifies c current n x = true → x.rank ≤ (hysteresisBand c current n).rank)
    ∨ ((∀ x, ¬ Band.qualifies c current n x = true) ∧ hysteresisBand c current n = current) := by
  rw [hysteresisBand, if_neg (Nat.not_le.2 h)]
  cases hfind : [Band.stocked, .low, .critical].find? (Band.qualifies c current n) with
  | some y => exact .inl ⟨List.find?_some hfind, fun x hx =>
      Band.rank_le_of_find? (by decide) hfind (Band.mem_of_qualifies hx) hx⟩
  | none => exact .inr ⟨fun x hx => List.find?_eq_none.1 hfind x (Band.mem_of_qualifies hx) hx, rfl⟩

theorem nextBand_of_known {current : Band} (h : current ≠ .unknown) (c : LaneConfig) (n : Nat) :
    nextBand c current n = hysteresisBand c current n := by
  rw [nextBand, if_neg h]

/-- Settles O54: from UNKNOWN and on a fall by definition, and on a rise by the first band of the search. -/
theorem bandFollowsCountWithHysteresis : Obligations.BandFollowsCountWithHysteresis := by
  intro c current n hmarks rank entry raw qualifies
  have hrank : rank = Band.rank := by funext x; cases x <;> rfl
  have hentry : entry = Band.entry c := by funext x; cases x <;> rfl
  have hqual (x : Band) : qualifies x ↔ Band.qualifies c current n x = true := by
    simp only [qualifies, hrank, hentry, Band.qualifies, Bool.and_eq_true, decide_eq_true_eq,
      Band.nonEmpty_iff hmarks, and_assoc]
    rfl
  simp only [hqual, hrank]
  refine ⟨rfl, fun hu => if_pos hu, fun hk hle => ?_, fun hk hlt => ?_⟩ <;> rw [nextBand_of_known hk]
  · exact if_pos hle
  · exact hysteresisBand_of_rise hlt

end Sys2Proof.Machine
end

section
/-! ACKNOWLEDGE (O21): its pairs and their check, and the lanes after all of them. -/

namespace Sys2Proof.Machine

/-! ### Pairs (R78) -/

/-- The two bytes of a pair: its lane, and the code of its band. -/
def ackPair (p : Fin 128 × Band) : List Byte := [byteOf p.1.val, byteOf p.2.code]

theorem length_flatMap_ackPair (pairs : List (Fin 128 × Band)) :
    (pairs.flatMap ackPair).length = 2 * pairs.length := by
  simp [List.length_flatMap, ackPair, Nat.mul_comm]

theorem Band.ofCode_byteOf (b : Band) : Band.ofCode (byteOf b.code).toNat = some b := by
  cases b <;> rfl

theorem Band.ofCode_of_lt {n : Nat} (h : 4 < n) : Band.ofCode n = none := by
  obtain ⟨k, rfl⟩ := Nat.exists_eq_add_of_le' h
  rfl

/-- The check passes over good pairs to what follows them. -/
theorem ackCheck_flatMap_append (pairs : List (Fin 128 × Band)) (tail : List Byte) :
    ackCheck (ackPairs (pairs.flatMap ackPair ++ tail)) =
      (ackCheck (ackPairs tail)).map (pairs ++ ·) := by
  induction pairs with
  | nil => cases h : ackCheck (ackPairs tail) <;> simp [Except.map, h]
  | cons p rest ih =>
    simp only [List.flatMap_cons, ackPair, List.cons_append, List.nil_append, ackPairs, ackCheck,
      index_byteOf p.1 (by decide), Band.ofCode_byteOf]
    rw [ih]
    cases ackCheck (ackPairs tail) <;> rfl

/-- Good pairs pass (R78). -/
theorem ackCheck_good (pairs : List (Fin 128 × Band)) :
    ackCheck (ackPairs (pairs.flatMap ackPair)) = .ok pairs := by
  simpa [ackPairs, ackCheck, Except.map] using ackCheck_flatMap_append pairs []

/-- The lane of a pair is checked before its band (R78). -/
theorem ackCheck_no_lane {lane : Byte} (band : Byte) (rest : List Byte) (h : 127 < lane.toNat) :
    ackCheck (ackPairs (lane :: band :: rest)) = .error .noSuch := by
  rw [ackPairs, ackCheck, index_of_le (Nat.succ_le_of_lt h)]

theorem ackCheck_no_band {lane band : Byte} (rest : List Byte) (hl : lane.toNat ≤ 127)
    (hb : 4 < band.toNat) : ackCheck (ackPairs (lane :: band :: rest)) = .error .badValue := by
  rw [ackPairs, ackCheck, index_of_lt (Nat.lt_succ_of_le hl), Band.ofCode_of_lt hb]

/-! ### One pair on a lane (R79) -/

/-- A pair leaves agreement alone on a frozen lane, and elsewhere sets it from the two bands. -/
theorem Lane.acknowledge_record (hold : Bool) (b : Band) (l : Lane) : l.acknowledge hold b = { l with
    refBand := b
    alertPending := false
    beaconLit := false
    kinds := { l.kinds with band := false }
    agree := if l.frozen hold = true then l.agree else l.band == b } := by
  unfold Lane.acknowledge Lane.evaluateQuietly
  by_cases h : l.frozen hold = true
  · rw [if_pos h]
    exact if_pos h
  · rw [if_neg h]
    exact if_neg h

/-- Of two pairs for one lane the later decides. -/
theorem Lane.acknowledge_acknowledge (hold : Bool) (a b : Band) (l : Lane) :
    (l.acknowledge hold a).acknowledge hold b = l.acknowledge hold b := by
  have hf : (l.acknowledge hold a).frozen hold = l.frozen hold := by
    rw [Lane.acknowledge_record]
    rfl
  rw [Lane.acknowledge_record, hf, Lane.acknowledge_record, Lane.acknowledge_record]
  split_ifs <;> rfl

/-! ### All pairs (R78, R79) -/

namespace State
variable (s : State) (n : Fin 128) (b : Band) (pairs : List (Fin 128 × Band))

/-- The pairs write lanes only. -/
theorem acknowledgeAll_frame :
    s.acknowledgeAll pairs = { s with lanes := (s.acknowledgeAll pairs).lanes } := by
  unfold acknowledgeAll
  induction pairs generalizing s with
  | nil => rfl
  | cons p rest ih => exact ih _

theorem acknowledgeAll_holding : (s.acknowledgeAll pairs).holding = s.holding := by
  rw [acknowledgeAll_frame]
  rfl

theorem acknowledgeAll_cons (p : Fin 128 × Band) : s.acknowledgeAll (p :: pairs) =
    (s.modifyLane p.1 (Lane.acknowledge s.holding p.2)).acknowledgeAll pairs := rfl

theorem acknowledgeAll_append (more : List (Fin 128 × Band)) :
    s.acknowledgeAll (pairs ++ more) = (s.acknowledgeAll pairs).acknowledgeAll more :=
  List.foldl_append

variable {pairs n} in
theorem acknowledgeAll_get_of_forall_ne (h : ∀ p ∈ pairs, p.1 ≠ n) :
    (s.acknowledgeAll pairs).lanes.get n = s.lanes.get n := by
  induction pairs generalizing s with
  | nil => rfl
  | cons p rest ih =>
    obtain ⟨hp, hrest⟩ := List.forall_mem_cons.1 h
    rw [acknowledgeAll_cons, ih _ hrest, modifyLane_lanes, Table.get_modify_ne _ hp]

/-- A pair for the lane leaves nothing of what the pairs before it wrote there. -/
theorem acknowledge_acknowledgeAll :
    ((s.acknowledgeAll pairs).lanes.get n).acknowledge s.holding b =
      (s.lanes.get n).acknowledge s.holding b := by
  induction pairs generalizing s with
  | nil => rfl
  | cons p rest ih =>
    rw [acknowledgeAll_cons]
    refine (ih (s.modifyLane p.1 (Lane.acknowledge s.holding p.2))).trans ?_
    change Lane.acknowledge s.holding b _ = _
    rw [modifyLane_lanes, Table.get_modify]
    split_ifs
    · exact Lane.acknowledge_acknowledge _ _ _ _
    · rfl

/-- The last pair that names a lane is what the lane holds. -/
theorem acknowledgeAll_get_of_last {after : List (Fin 128 × Band)} (h : ∀ p ∈ after, p.1 ≠ n) :
    (s.acknowledgeAll (pairs ++ [(n, b)] ++ after)).lanes.get n =
      (s.lanes.get n).acknowledge s.holding b := by
  rw [acknowledgeAll_append, acknowledgeAll_get_of_forall_ne _ h, acknowledgeAll_append,
    acknowledgeAll_cons, acknowledgeAll_holding]
  exact (Table.get_modify_self _ _ _).trans (acknowledge_acknowledgeAll s n b pairs)

/-- The event of an ACKNOWLEDGE as a whole writes lanes only. -/
theorem close_acknowledgeAll_sameButLanes : s.SameButLanes (close s (s.acknowledgeAll pairs)) := by
  rw [acknowledgeAll_frame]
  exact close_withLanes rfl _

theorem close_acknowledgeAll_get : (close s (s.acknowledgeAll pairs)).lanes.get n =
    Lane.settleDue s.now (s.lanes.get n) ((s.acknowledgeAll pairs).lanes.get n) := by
  rw [close_lane, acknowledgeAll_frame]
  rfl

end State

/-! ### The request -/

variable {s : State} {tag : Byte} {fields : List Byte}

theorem exec_acknowledge (h : s.TakesAtOnce) {pairs : Nat} (hpos : 1 ≤ pairs) (hmax : pairs ≤ 12)
    (hf : fields.length = 2 * pairs) : exec (.acknowledge tag fields) s = .next
      (State.reply tag .acknowledge (s.requestAcknowledge (RequestCode.acknowledge.code :: fields))) :=
  exec_command_fits h .acknowledge (by decide) <|
    (RequestCode.fits_iff _ _).2 ⟨pairs, hpos, hmax, by omega⟩

theorem requestAcknowledge_ok {c : Byte} {pairs : List (Fin 128 × Band)}
    (h : ackCheck (ackPairs fields) = .ok pairs) :
    s.requestAcknowledge (c :: fields) = (State.close s (s.acknowledgeAll pairs)).done := by
  simp [State.requestAcknowledge, h]

theorem requestAcknowledge_error {c : Byte} {r : Result} (h : ackCheck (ackPairs fields) = .error r) :
    s.requestAcknowledge (c :: fields) = s.refuse r := by
  simp [State.requestAcknowledge, h]

theorem exec_acknowledge_good (h : s.TakesAtOnce) {pairs : List (Fin 128 × Band)}
    (hpos : 1 ≤ pairs.length) (hmax : pairs.length ≤ 12) :
    exec (.acknowledge tag (pairs.flatMap ackPair)) s =
      .next ((State.close s (s.acknowledgeAll pairs)).answered tag [0x23, 0x00]) := by
  rw [exec_acknowledge h hpos hmax (length_flatMap_ackPair pairs),
    requestAcknowledge_ok (ackCheck_good pairs)]
  rfl

/-- The first bad pair decides the answer, and nothing else changes (R78). -/
theorem exec_acknowledge_bad (h : s.TakesAtOnce) {good : List (Fin 128 × Band)} {lane band : Byte}
    {rest : List Byte} {r : Result} (heven : rest.length % 2 = 0)
    (hmax : 2 * good.length + rest.length ≤ 22)
    (hr : ackCheck (ackPairs (lane :: band :: rest)) = .error r) :
    exec (.acknowledge tag (good.flatMap ackPair ++ [lane, band] ++ rest)) s =
      .next (s.answered tag [0x23, byteOf r.code]) := by
  have hbad : ackCheck (ackPairs (good.flatMap ackPair ++ lane :: band :: rest)) = .error r := by
    rw [ackCheck_flatMap_append, hr]
    rfl
  have hlen : (good.flatMap ackPair ++ lane :: band :: rest).length =
      2 * (good.length + 1 + rest.length / 2) := by
    rw [List.length_append, length_flatMap_ackPair, List.length_cons, List.length_cons]
    omega
  rw [List.append_assoc, List.cons_append, List.cons_append, List.nil_append,
    exec_acknowledge h (by omega) (by omega) hlen, requestAcknowledge_error hbad]
  rfl

/-- Settles O21: the lanes by the last pair that names each, and the refusals by the first bad pair. -/
theorem acknowledgeWritesRefBands : Obligations.AcknowledgeWritesRefBands := by
  intro s tag h
  refine ⟨fun pairs hpos hmax => ⟨_, exec_acknowledge_good h hpos hmax, ?_, fun n hn => ?_,
    fun n before after b hp hlast => ?_⟩, fun good lane band rest heven hmax =>
      ⟨fun hl => ?_, fun hl hb => ?_⟩⟩
  · exact (s.close_acknowledgeAll_sameButLanes pairs).answered _
  · calc (State.close s (s.acknowledgeAll pairs)).lanes.get n
        = Lane.settleDue s.now (s.lanes.get n) ((s.acknowledgeAll pairs).lanes.get n) :=
          s.close_acknowledgeAll_get n pairs
      _ = s.lanes.get n := by rw [s.acknowledgeAll_get_of_forall_ne hn, Lane.settleDue_self]
  · refine (s.close_acknowledgeAll_get n pairs).trans ?_
    rw [hp, s.acknowledgeAll_get_of_last n b before hlast, Lane.acknowledge_record]
    simp only [Lane.frozen_iff, ← or_assoc, or_comm (b := (s.lanes.get n).state = .acquiring)]
    rfl
  · exact exec_acknowledge_bad h heven hmax (ackCheck_no_lane band rest hl)
  · exact exec_acknowledge_bad h heven hmax (ackCheck_no_band rest hl hb)

end Sys2Proof.Machine
end

section
/-! The order of choice (R90): what `best` leaves of a list, and the order in which subjects are chosen. -/

namespace Sys2Proof.Machine

/-! ### The best of a list -/

/-- Over the items of `xs`, `ahead` decides which of two stands first in `R`. -/
structure Decides {α : Type} (ahead : α → α → Bool) (R : α → α → Prop) (xs : List α) : Prop where
  refl : ∀ a ∈ xs, R a a
  trans : ∀ a ∈ xs, ∀ b ∈ xs, ∀ c ∈ xs, R a b → R b c → R a c
  yes : ∀ a ∈ xs, ∀ b ∈ xs, ahead a b = true → R a b
  no : ∀ a ∈ xs, ∀ b ∈ xs, ahead a b = false → R b a

variable {α : Type} {ahead : α → α → Bool} {R : α → α → Prop} {x m : α} {xs ys : List α}

theorem Decides.mono (h : Decides ahead R xs) (hs : ys ⊆ xs) : Decides ahead R ys where
  refl a ha := h.refl a (hs ha)
  trans a ha b hb c hc := h.trans a (hs ha) b (hs hb) c (hs hc)
  yes a ha b hb := h.yes a (hs ha) b (hs hb)
  no a ha b hb := h.no a (hs ha) b (hs hb)

/-- A decision on what each item is about. -/
theorem Decides.comap {β : Type} {f : β → α} {zs : List β} (h : Decides ahead R (zs.map f)) :
    Decides (fun a b => ahead (f a) (f b)) (fun a b => R (f a) (f b)) zs where
  refl _ ha := h.refl _ (List.mem_map_of_mem ha)
  trans _ ha _ hb _ hc := h.trans _ (List.mem_map_of_mem ha) _ (List.mem_map_of_mem hb) _
    (List.mem_map_of_mem hc)
  yes _ ha _ hb := h.yes _ (List.mem_map_of_mem ha) _ (List.mem_map_of_mem hb)
  no _ ha _ hb := h.no _ (List.mem_map_of_mem ha) _ (List.mem_map_of_mem hb)

theorem best_cons_cons (x y : α) : best ahead (x :: y :: xs) =
    best ahead ((if ahead y x then y else x) :: xs) := rfl

theorem best_mem (h : best ahead xs = some m) : m ∈ xs := by
  cases xs with
  | nil => cases h
  | cons x xs =>
    induction xs generalizing x with
    | nil => simp_all [best]
    | cons y ys ih =>
      rw [best_cons_cons] at h
      rcases List.mem_cons.1 (ih _ h) with hm | hm
      · rw [hm]
        split_ifs <;> simp
      · simp [hm]

theorem best_isSome (h : xs ≠ []) : ∃ m, best ahead xs = some m := by
  cases xs with
  | nil => exact absurd rfl h
  | cons x xs => exact ⟨_, rfl⟩

theorem best_first (hd : Decides ahead R xs) (h : best ahead xs = some m) : ∀ y ∈ xs, R m y := by
  cases xs with
  | nil => cases h
  | cons x xs =>
    induction xs generalizing x with
    | nil =>
      obtain rfl : x = m := by simpa [best] using h
      simpa using hd.refl x (by simp)
    | cons y ys ih =>
      have hm := best_mem h
      rw [best_cons_cons] at h
      have hx : x ∈ x :: y :: ys := by simp
      have hy : y ∈ x :: y :: ys := by simp
      cases ha : ahead y x with
      | true =>
        simp only [ha, if_true] at h
        have first := ih y (hd.mono (by simp)) h
        intro z hz
        rcases List.mem_cons.1 hz with rfl | hz
        · exact hd.trans m hm y hy z hx (first y (by simp)) (hd.yes y hy z hx ha)
        · exact first z hz
      | false =>
        simp only [ha, Bool.false_eq_true, if_false] at h
        have first := ih x (hd.mono (List.cons_subset_cons x (List.subset_cons_self y ys))) h
        intro z hz
        rcases List.mem_cons.1 hz with rfl | hz
        · exact first z (by simp)
        rcases List.mem_cons.1 hz with rfl | hz
        · exact hd.trans m hm x hx z hy (first x (by simp)) (hd.no z hy x hx ha)
        · exact first z (by simp [hz])

/-! ### Due times within half the range of the clock (R149) -/

/-- Of two clock values less than half the range behind one base, the signed difference is that of their
distances from it. -/
theorem toInt_sub_of_base {base a b : Clock} (ha : (a - base).toNat < 2147483648)
    (hb : (b - base).toNat < 2147483648) :
    (b - a).toInt = ((b - base).toNat : Int) - (a - base).toNat := by
  rw [show b - a = (b - base) - (a - base) by bv_omega]
  generalize a - base = u at *
  generalize b - base = v at *
  rw [BitVec.toInt_sub, BitVec.toInt_eq_toNat_of_lt (by omega), BitVec.toInt_eq_toNat_of_lt (by omega)]
  apply Int.bmod_eq_of_le <;> omega

theorem Subject.number_injective {x y : Subject} (h : x.number = y.number) : x = y := by
  cases x <;> cases y <;> simp only [Subject.number] at h
  · rw [Fin.ext h]
  · omega
  · omega
  · rw [Fin.ext (Nat.add_left_cancel h)]

namespace State

variable {s : State} {x y : Subject}

/-- Earliest due since, then lowest subject number (R90): `State.dueBefore` as the statements write it. -/
def DueFirst (s : State) (x y : Subject) : Prop :=
  0 < (s.dueSince y - s.dueSince x).toInt ∨ (s.dueSince x = s.dueSince y ∧ x.number < y.number)

/-- The queue order stands `x` before `y`, or they are one subject. -/
def Foremost (s : State) (x y : Subject) : Prop := x = y ∨ s.AdmittedBefore x y

theorem admittedBefore_priority (h : s.mgmt.settings.queueOrder = .priority) : s.AdmittedBefore x y ↔
    s.priority y < s.priority x ∨ (s.priority x = s.priority y ∧ s.DueFirst x y) := by
  simp [AdmittedBefore, h, DueFirst]

theorem admittedBefore_arrival (h : s.mgmt.settings.queueOrder = .arrival) :
    s.AdmittedBefore x y ↔ s.DueFirst x y := by
  simp [AdmittedBefore, h, DueFirst]

/-- Distance of a due time from a base. -/
def dueFrom (s : State) (base : Clock) (x : Subject) : Nat := (s.dueSince x - base).toNat

theorem dueSince_eq_iff (base : Clock) :
    s.dueSince x = s.dueSince y ↔ s.dueFrom base x = s.dueFrom base y := by
  unfold dueFrom
  rw [BitVec.toNat_inj, BitVec.sub_left_inj]

section
variable {base : Clock} (hx : s.dueFrom base x < 2147483648) (hy : s.dueFrom base y < 2147483648)
include hx hy

theorem dueFirst_iff : s.DueFirst x y ↔ s.dueFrom base x < s.dueFrom base y
    ∨ (s.dueFrom base x = s.dueFrom base y ∧ x.number < y.number) := by
  unfold DueFirst
  rw [dueSince_eq_iff base, toInt_sub_of_base hx hy]
  unfold dueFrom
  omega

theorem dueBefore_iff : s.dueBefore x y = true ↔ s.DueFirst x y := by
  unfold dueBefore earlier
  rw [dueFirst_iff hx hy]
  split_ifs with h
  · have := (dueSince_eq_iff base).1 h
    simp [this]
  · have := mt (dueSince_eq_iff base).2 h
    rw [decide_eq_true_eq, toInt_sub_of_base hy hx]
    unfold dueFrom at *
    omega

end

/-- In PRIORITY order the highest current priority is chosen, whatever the due times. -/
theorem ahead_decides_priority (s : State) (xs : List Subject) :
    Decides s.ahead (fun a b => s.priority b ≤ s.priority a) xs where
  refl _ _ := Nat.le_refl _
  trans _ _ _ _ _ _ h k := Nat.le_trans k h
  yes a _ b _ h := by
    unfold ahead at h
    split_ifs at h with he
    · exact he.ge
    · exact (of_decide_eq_true h).le
  no a _ b _ h := by
    unfold ahead at h
    split_ifs at h with he
    · exact he.le
    · exact Nat.le_of_not_lt (of_decide_eq_false h)

theorem ahead_iff {base : Clock} (hx : s.dueFrom base x < 2147483648)
    (hy : s.dueFrom base y < 2147483648) (ho : s.mgmt.settings.queueOrder = .priority) :
    s.ahead x y = true ↔ s.AdmittedBefore x y := by
  rw [admittedBefore_priority ho]
  unfold ahead
  split_ifs with h
  · simp [h, dueBefore_iff hx hy]
  · simp [h]

/-- Comparable due times make the order of choice an order. -/
theorem foremost_trans {base : Clock} {z : Subject} (hx : s.dueFrom base x < 2147483648)
    (hy : s.dueFrom base y < 2147483648) (hz : s.dueFrom base z < 2147483648)
    (h : s.Foremost x y) (k : s.Foremost y z) : s.Foremost x z := by
  rcases h with rfl | h
  · exact k
  rcases k with rfl | k
  · exact .inr h
  refine .inr ?_
  cases ho : s.mgmt.settings.queueOrder
  · rw [admittedBefore_priority ho] at *
    rw [dueFirst_iff hx hy] at h
    rw [dueFirst_iff hy hz] at k
    rw [dueFirst_iff hx hz]
    omega
  · rw [admittedBefore_arrival ho] at *
    rw [dueFirst_iff hx hy] at h
    rw [dueFirst_iff hy hz] at k
    rw [dueFirst_iff hx hz]
    omega

theorem foremost_total {base : Clock} (hx : s.dueFrom base x < 2147483648)
    (hy : s.dueFrom base y < 2147483648) (h : ¬ s.AdmittedBefore x y) : s.Foremost y x := by
  by_cases he : x.number = y.number
  · exact .inl (Subject.number_injective he).symm
  refine .inr ?_
  cases ho : s.mgmt.settings.queueOrder
  · rw [admittedBefore_priority ho] at *
    rw [dueFirst_iff hx hy] at h
    rw [dueFirst_iff hy hx]
    omega
  · rw [admittedBefore_arrival ho] at *
    rw [dueFirst_iff hx hy] at h
    rw [dueFirst_iff hy hx]
    omega

/-- The decision by which an admission chooses (R90). -/
def admits (s : State) (a b : Subject) : Bool :=
  match s.mgmt.settings.queueOrder with
  | .priority => s.ahead a b
  | .arrival => s.dueBefore a b

theorem admits_iff {base : Clock} (hx : s.dueFrom base x < 2147483648)
    (hy : s.dueFrom base y < 2147483648) : s.admits x y = true ↔ s.AdmittedBefore x y := by
  cases ho : s.mgmt.settings.queueOrder <;> simp only [admits, ho]
  · exact ahead_iff hx hy ho
  · rw [admittedBefore_arrival ho]
    exact dueBefore_iff hx hy

/-- Over comparable due times an admission chooses by the order of the statements. -/
theorem DueComparable.decides {xs : List Subject} (h : s.DueComparable xs) :
    Decides s.admits s.Foremost xs := by
  obtain ⟨base, hb⟩ := h
  exact {
    refl := fun _ _ => .inl rfl
    trans := fun a ha b hb' c hc => foremost_trans (hb a ha) (hb b hb') (hb c hc)
    yes := fun a ha b hb' h => .inr ((admits_iff (hb a ha) (hb b hb')).1 h)
    no := fun a ha b hb' h => foremost_total (hb a ha) (hb b hb') fun hab => by
      rw [(admits_iff (hb a ha) (hb b hb')).2 hab] at h
      cases h }

theorem admits_decides_priority (h : s.mgmt.settings.queueOrder = .priority) (xs : List Subject) :
    Decides s.admits (fun a b => s.priority b ≤ s.priority a) xs := by
  have he : s.admits = s.ahead := by
    funext a b
    simp only [admits, h]
  exact he ▸ s.ahead_decides_priority xs

theorem nextDeferred_eq (s : State) : s.nextDeferred = best s.admits s.notice.deferred := by
  cases h : s.mgmt.settings.queueOrder <;> simp only [nextDeferred, h] <;> congr 1 <;> funext a b <;>
    simp only [admits, h]

end State

end Sys2Proof.Machine
end

section
/-! The notice queue and the deferred set (R85, R88, R89): what admission, leaving and joining leave, and from
them what the closing of one event does to both. -/

namespace Sys2Proof.Machine

/-! ### Entries with numbers in order -/

/-- Queue entries of the subjects in order, numbered from `k` on. -/
def numbered (k : Nat) : List Subject → List QueueEntry
  | [] => []
  | x :: xs => ⟨x, k⟩ :: numbered (k + 1) xs

variable {k : Nat} {x y : Subject} {xs ys : List Subject}

theorem numbered_append : numbered k (xs ++ ys) = numbered k xs ++ numbered (k + xs.length) ys := by
  induction xs generalizing k with
  | nil => rfl
  | cons x xs ih => simp [numbered, ih, Nat.add_right_comm, Nat.add_assoc]

@[simp] theorem numbered_subjects : (numbered k xs).map QueueEntry.subject = xs := by
  induction xs generalizing k with
  | nil => rfl
  | cons x xs ih => simp [numbered, ih]

@[simp] theorem numbered_length : (numbered k xs).length = xs.length := by
  rw [← List.length_map QueueEntry.subject, numbered_subjects]

theorem numbered_numbers : (numbered k xs).map QueueEntry.number = List.range' k xs.length := by
  induction xs generalizing k with
  | nil => rfl
  | cons x xs ih => simp [numbered, ih, List.range'_succ]

theorem mem_numbered_number {e : QueueEntry} (h : e ∈ numbered k xs) :
    k ≤ e.number ∧ e.number < k + xs.length := by
  have hn := List.mem_map_of_mem (f := QueueEntry.number) h
  rw [numbered_numbers, List.mem_range'_1] at hn
  exact hn

theorem mem_numbered_subject {e : QueueEntry} (h : e ∈ numbered k xs) : e.subject ∈ xs := by
  have hs := List.mem_map_of_mem (f := QueueEntry.subject) h
  rwa [numbered_subjects] at hs

theorem exists_mem_numbered : (∃ e ∈ numbered k xs, e.subject = x) ↔ x ∈ xs := by
  rw [← List.mem_map, numbered_subjects]

theorem pairwise_numbered {R : Subject → Subject → Prop} :
    (numbered k xs).Pairwise (fun e f => R e.subject f.subject) ↔ xs.Pairwise R := by
  rw [← List.pairwise_map (f := QueueEntry.subject), numbered_subjects]

theorem numbered_rising : (numbered k xs).Pairwise (fun e f => e.number < f.number) := by
  rw [← List.pairwise_map (f := QueueEntry.number), numbered_numbers]
  exact List.pairwise_lt_range' 1

namespace State

variable {s t : State}

/-! ### The deferred set in rising order -/

theorem mem_insertSubject : y ∈ insertSubject x xs ↔ y = x ∨ y ∈ xs := by
  induction xs with
  | nil => simp [insertSubject]
  | cons z zs ih =>
    unfold insertSubject
    split_ifs with hlt heq
    · simp
    · subst heq
      simp
    · simp only [List.mem_cons, ih]
      tauto

/-- Subjects in rising subject order. -/
def Rising (xs : List Subject) : Prop := xs.Pairwise (fun x y => x.number < y.number)

theorem Rising.nodup (h : Rising xs) : xs.Nodup :=
  List.Pairwise.imp (fun hlt he => by subst he; exact Nat.lt_irrefl _ hlt) h

theorem rising_insertSubject (h : Rising xs) : Rising (insertSubject x xs) := by
  induction xs with
  | nil => exact List.pairwise_singleton _ _
  | cons z zs ih =>
    obtain ⟨hz, hzs⟩ := List.pairwise_cons.1 h
    unfold insertSubject
    split_ifs with hlt heq
    · refine List.pairwise_cons.2 ⟨fun y hy => ?_, h⟩
      rcases List.mem_cons.1 hy with rfl | hy
      · exact hlt
      · exact hlt.trans (hz y hy)
    · exact h
    · refine List.pairwise_cons.2 ⟨fun y hy => ?_, ih hzs⟩
      rcases mem_insertSubject.1 hy with rfl | hy
      · exact Nat.lt_of_le_of_ne (Nat.not_lt.1 hlt) fun hn => heq (Subject.number_injective hn).symm
      · exact hz y hy

theorem all_rising : Rising Subject.all := by
  have lanes : Rising ((List.finRange 128).map Subject.lane) :=
    List.pairwise_map.2 (List.pairwise_lt_finRange 128)
  have nodes : Rising ((List.finRange 64).map Subject.node) :=
    List.pairwise_map.2 ((List.pairwise_lt_finRange 64).imp fun h => Nat.add_lt_add_left h 128)
  refine List.pairwise_append.2 ⟨lanes, nodes, fun a ha b hb => ?_⟩
  obtain ⟨n, -, rfl⟩ := List.mem_map.1 ha
  obtain ⟨i, -, rfl⟩ := List.mem_map.1 hb
  exact Nat.lt_of_lt_of_le n.isLt (Nat.le_add_right 128 i.val)

@[simp] theorem mem_all (x : Subject) : x ∈ Subject.all := by cases x <;> simp [Subject.all]

/-! ### What admission and joining write -/

/-- The subjects `xs` have joined the queue of `s`, in this order, with the next admission numbers. -/
structure Enqueued (s : State) (xs : List Subject) (t : State) : Prop where
  queue : t.notice.queue = s.notice.queue ++ numbered s.notice.nextAdmission xs
  next : t.notice.nextAdmission = s.notice.nextAdmission + xs.length
  frame : s.SameButQueue t

theorem mem_enqueue_deferred : y ∈ (s.enqueue x).notice.deferred ↔ y ∈ s.notice.deferred ∧ y ≠ x := by
  simp [enqueue]

theorem Enqueued.nil (hq : t.notice.queue = s.notice.queue)
    (hn : t.notice.nextAdmission = s.notice.nextAdmission) (hf : s.SameButQueue t) :
    s.Enqueued [] t := ⟨by simp [hq, numbered], by simp [hn], hf⟩

theorem Enqueued.cons (h : (s.enqueue x).Enqueued xs t) : s.Enqueued (x :: xs) t where
  queue := h.queue.trans (by simp [enqueue, numbered])
  next := h.next.trans (by simp [enqueue]; omega)
  frame := (enqueue_frame s x).trans h.frame

theorem Enqueued.append {u : State} (h : s.Enqueued xs t) (k : t.Enqueued ys u) :
    s.Enqueued (xs ++ ys) u where
  queue := by rw [k.queue, h.queue, h.next, numbered_append, List.append_assoc]
  next := by rw [k.next, h.next, List.length_append, Nat.add_assoc]
  frame := h.frame.trans k.frame

theorem Enqueued.length (h : s.Enqueued xs t) :
    t.notice.queue.length = s.notice.queue.length + xs.length := by
  rw [h.queue, List.length_append, numbered_length]

/-- What the queue and the deferred set do not hold is as it was. -/
theorem SameButQueue.same (h : s.SameButQueue t) : t.lanes = s.lanes ∧ t.nodes = s.nodes
    ∧ t.notice.groups = s.notice.groups ∧ t.mgmt = s.mgmt ∧ t.backbone = s.backbone := by
  unfold SameButQueue at h
  rw [h]
  exact ⟨rfl, rfl, rfl, rfl, rfl⟩

theorem SameButQueue.isDue (h : s.SameButQueue t) (x : Subject) : t.isDue x = s.isDue x := by
  obtain ⟨hl, hn, -⟩ := h.same
  cases x <;> simp [State.isDue, hl, hn]

theorem SameButQueue.dueSince (h : s.SameButQueue t) (x : Subject) : t.dueSince x = s.dueSince x := by
  obtain ⟨hl, hn, -⟩ := h.same
  cases x <;> simp [State.dueSince, hl, hn]

theorem SameButQueue.kindPending (h : s.SameButQueue t) (x : Subject) :
    t.kindPending x = s.kindPending x := by
  obtain ⟨hl, hn, -⟩ := h.same
  cases x <;> simp [State.kindPending, hl, hn]

theorem SameButQueue.priority (h : s.SameButQueue t) (x : Subject) : t.priority x = s.priority x := by
  obtain ⟨hl, hn, hg, hm, -⟩ := h.same
  cases x <;> simp [State.priority, hl, hg, hm]

theorem SameButQueue.admits (h : s.SameButQueue t) : t.admits = s.admits := by
  obtain ⟨-, -, -, hm, -⟩ := h.same
  funext x y
  simp only [State.admits, ahead, dueBefore, hm, h.priority, h.dueSince]

/-! ### Admission (R89) -/

/-- The deferred subjects `xs` have been admitted while the queue had room, each chosen among those then
deferred: whatever order decides the choice (R90), they stand in it, before those still deferred. -/
structure Admitted (s : State) (xs : List Subject) (t : State) : Prop extends s.Enqueued xs t where
  deferred : t.notice.deferred = s.notice.deferred.filter (fun y => !xs.contains y)
  mem : ∀ x ∈ xs, x ∈ s.notice.deferred
  nodup : xs.Nodup
  room : xs = [] ∨ t.notice.queue.length ≤ 32
  ordered : ∀ R, Decides s.admits R s.notice.deferred →
    xs.Pairwise R ∧ ∀ x ∈ xs, ∀ y ∈ t.notice.deferred, R x y

theorem Admitted.none (s : State) : s.Admitted [] s where
  toEnqueued := .nil rfl rfl (.refl s)
  deferred := by simp
  mem := nofun
  nodup := .nil
  room := .inl rfl
  ordered _ _ := by simp

theorem Admitted.cons (hx : s.nextDeferred = some x) (hroom : s.notice.queue.length < 32)
    (h : (s.enqueue x).Admitted xs t) : s.Admitted (x :: xs) t where
  toEnqueued := .cons h.toEnqueued
  deferred := by
    rw [h.deferred]
    simp only [enqueue, List.filter_filter]
    refine List.filter_congr fun y _ => ?_
    rw [List.contains_cons, Bool.not_or, Bool.and_comm]
    rfl
  mem := List.forall_mem_cons.2
    ⟨best_mem (s.nextDeferred_eq ▸ hx), fun y hy => (mem_enqueue_deferred.1 (h.mem y hy)).1⟩
  nodup := List.nodup_cons.2 ⟨fun hm => (mem_enqueue_deferred.1 (h.mem x hm)).2 rfl, h.nodup⟩
  room := .inr <| by
    rcases h.room with rfl | hr
    · rw [h.queue]
      simp only [enqueue, numbered, List.append_nil, List.length_append, List.length_singleton]
      omega
    · exact hr
  ordered R hd := by
    have first {y : Subject} (hy : y ∈ (s.enqueue x).notice.deferred) : R x y :=
      best_first hd (s.nextDeferred_eq ▸ hx) y (mem_enqueue_deferred.1 hy).1
    obtain ⟨pairs, others⟩ := h.ordered R (hd.mono fun y hy => (mem_enqueue_deferred.1 hy).1)
    refine ⟨List.pairwise_cons.2 ⟨fun y hy => first (h.mem y hy), pairs⟩,
      List.forall_mem_cons.2 ⟨fun y hy => first ?_, others⟩⟩
    rw [h.deferred] at hy
    exact (List.mem_filter.1 hy).1

theorem admitUpTo_admitted (fuel : Nat) (s : State) : ∃ xs, s.Admitted xs (s.admitUpTo fuel) := by
  induction fuel generalizing s with
  | zero => exact ⟨[], .none s⟩
  | succ fuel ih =>
    unfold admitUpTo
    split_ifs with hroom
    · split
      · rename_i x hx
        obtain ⟨xs, h⟩ := ih (s.enqueue x)
        exact ⟨x :: xs, h.cons hx hroom⟩
      · exact ⟨[], .none s⟩
    · exact ⟨[], .none s⟩

/-- Admission stops only at a full queue or an empty deferred set. -/
theorem admitUpTo_full {fuel : Nat} (h : s.notice.deferred.length ≤ fuel) :
    (s.admitUpTo fuel).notice.deferred = [] ∨ 32 ≤ (s.admitUpTo fuel).notice.queue.length := by
  induction fuel generalizing s with
  | zero => exact .inl (List.eq_nil_of_length_eq_zero (Nat.le_zero.1 h))
  | succ fuel ih =>
    unfold admitUpTo
    split_ifs with hroom
    · split
      · rename_i x hx
        refine ih (Nat.le_of_lt_succ (Nat.lt_of_lt_of_le ?_ h))
        refine List.length_filter_lt_length_iff_exists.2 ⟨x, best_mem (s.nextDeferred_eq ▸ hx), ?_⟩
        simp
      · rename_i hn
        refine .inl (by_contra fun hne => ?_)
        obtain ⟨x, hx⟩ := best_isSome (ahead := s.admits) hne
        rw [nextDeferred_eq, hx] at hn
        cases hn
    · exact .inr (Nat.not_lt.1 hroom)

theorem admitDeferred_admitted (s : State) : ∃ xs, s.Admitted xs s.admitDeferred
    ∧ (s.admitDeferred.notice.deferred = [] ∨ 32 ≤ s.admitDeferred.notice.queue.length) :=
  let ⟨xs, h⟩ := admitUpTo_admitted s.notice.deferred.length s
  ⟨xs, h, admitUpTo_full le_rfl⟩

/-! ### Joining (R85) -/

/-- Of subjects that became due, `xs` have joined the queue while it had room, and `ys` behind them were
deferred. -/
structure Joined (s : State) (xs ys : List Subject) (t : State) : Prop extends s.Enqueued xs t where
  deferred : ∀ y, y ∈ t.notice.deferred ↔ y ∈ s.notice.deferred ∨ y ∈ ys
  rising : Rising s.notice.deferred → Rising t.notice.deferred
  room : xs = [] ∨ t.notice.queue.length ≤ 32
  full : ys = [] ∨ 32 ≤ t.notice.queue.length

theorem joinQueue_of_full (h : 32 ≤ s.notice.queue.length) : s.joinQueue x =
    { s with notice := { s.notice with deferred := insertSubject x s.notice.deferred } } :=
  if_neg (Nat.not_lt.2 h)

theorem joinQueue_of_room (h : s.notice.queue.length < 32) : s.joinQueue x = s.enqueue x :=
  if_pos h

/-- Behind a full queue every subject that became due is deferred. -/
theorem joinAll_of_full (h : 32 ≤ s.notice.queue.length) : s.Joined [] xs (xs.foldl joinQueue s) := by
  induction xs generalizing s with
  | nil => exact ⟨.nil rfl rfl (.refl s), by simp, id, .inl rfl, .inl rfl⟩
  | cons x xs ih =>
    have k := ih (s := s.joinQueue x) (by rw [joinQueue_of_full h]; exact h)
    rw [joinQueue_of_full h] at k
    rw [List.foldl_cons, joinQueue_of_full h]
    refine ⟨⟨k.queue, k.next, ?_⟩, fun y => ?_, fun hr => k.rising (rising_insertSubject hr), .inl rfl,
      .inr ?_⟩
    · exact joinQueue_of_full h ▸ (joinQueue_frame s x).trans (joinQueue_of_full h ▸ k.frame)
    · rw [k.deferred, mem_insertSubject, List.mem_cons]
      tauto
    · rw [k.length]
      exact Nat.le_add_right_of_le h

/-- Subjects that became due join in order while the queue has room, and the rest are deferred (R85). -/
theorem joinAll_joined (hx : ∀ x ∈ xs, x ∉ s.notice.deferred) :
    ∃ ys zs, xs = ys ++ zs ∧ s.Joined ys zs (xs.foldl joinQueue s) := by
  induction xs generalizing s with
  | nil => exact ⟨[], [], rfl, .nil rfl rfl (.refl s), by simp, id, .inl rfl, .inl rfl⟩
  | cons x xs ih =>
    by_cases hroom : s.notice.queue.length < 32
    · have hkeep : (s.enqueue x).notice.deferred = s.notice.deferred :=
        List.filter_eq_self.2 fun y hy => bne_iff_ne.2 fun he => hx x (by simp) (he ▸ hy)
      obtain ⟨ys, zs, rfl, k⟩ := ih (s := s.enqueue x) fun y hy => by
        rw [hkeep]
        exact hx y (by simp [hy])
      rw [List.foldl_cons, joinQueue_of_room hroom]
      refine ⟨x :: ys, zs, rfl, k.cons, fun y => hkeep ▸ k.deferred y, hkeep ▸ k.rising, .inr ?_, k.full⟩
      rcases k.room with rfl | hr
      · rw [k.length]
        simp only [enqueue, List.length_append, List.length_singleton, List.length_nil]
        omega
      · exact hr
    · exact ⟨[], x :: xs, rfl, joinAll_of_full (Nat.not_lt.1 hroom)⟩

/-! ### Leaving (R85, R89) -/

/-- The queue and the deferred set without subjects that do not wait any more. -/
def without (s : State) (xs : List Subject) : State :=
  { s with notice := { s.notice with
    queue := s.notice.queue.filter (fun e => !xs.contains e.subject)
    deferred := s.notice.deferred.filter (fun x => !xs.contains x) } }

theorem leaveQueue_of_shorter (h : (s.without xs).notice.queue.length < s.notice.queue.length) :
    s.leaveQueue xs = (s.without xs).admitDeferred := if_pos h

/-- Subjects leave, and where that frees places in the queue deferred subjects are admitted (R85, R89). -/
theorem leaveQueue_admitted (xs : List Subject)
    (hfull : s.notice.deferred ≠ [] → 32 ≤ s.notice.queue.length) :
    ∃ ys, (s.without xs).Admitted ys (s.leaveQueue xs)
      ∧ ((s.leaveQueue xs).notice.deferred = [] ∨ 32 ≤ (s.leaveQueue xs).notice.queue.length) := by
  unfold leaveQueue
  simp only
  split_ifs with hshort
  · exact admitDeferred_admitted (s.without xs)
  · refine ⟨[], .none (s.without xs), ?_⟩
    rcases List.eq_nil_or_concat s.notice.deferred with hd | hd
    · exact .inl (by simp [hd])
    · have hne : s.notice.deferred ≠ [] := by
        obtain ⟨_, _, hd⟩ := hd
        simp [hd]
      exact .inr ((hfull hne).trans (Nat.not_lt.1 hshort))

end State

end Sys2Proof.Machine
end

section
/-! The closing of one event (R85): who leaves, who is admitted, who joins, and in which order; and that it keeps
the queue and the deferred set consistent. -/

namespace Sys2Proof.Machine

theorem Lane.settleDue_kinds (now : Clock) (b l : Lane) : (Lane.settleDue now b l).kinds = l.kinds := by
  unfold Lane.settleDue
  split_ifs <;> rfl

theorem Node.settleDue_statePending (now : Clock) (b n : Node) :
    (Node.settleDue now b n).statePending = n.statePending := by
  unfold Node.settleDue
  split_ifs <;> rfl

/-- Notice due follows the kinds where it did before the event (R85). -/
theorem Lane.settleDue_due {now : Clock} {b l : Lane} (h : l.due = b.kinds.any) :
    (Lane.settleDue now b l).due = l.kinds.any := by
  unfold Lane.settleDue
  cases hb : b.kinds.any <;> cases hl : l.kinds.any <;> simp [h, hb]

theorem Node.settleDue_due {now : Clock} {b n : Node} (h : n.due = b.statePending) :
    (Node.settleDue now b n).due = n.statePending := by
  unfold Node.settleDue
  cases hb : b.statePending <;> cases hn : n.statePending <;> simp [h, hb]

theorem Lane.settleDue_emptied {now : Clock} {b l : Lane} (hb : b.kinds.any = true)
    (hl : l.kinds.any = false) : Lane.settleDue now b l = { l with due := false } := by
  simp [Lane.settleDue, hb, hl]

theorem Node.settleDue_emptied {now : Clock} {b n : Node} (hb : b.statePending = true)
    (hn : n.statePending = false) : Node.settleDue now b n = { n with due := false } := by
  simp [Node.settleDue, hb, hn]

theorem Lane.settleDue_dueSince (now : Clock) (b l : Lane) : (Lane.settleDue now b l).dueSince =
    if b.kinds.any = false ∧ l.kinds.any = true then now else l.dueSince := by
  unfold Lane.settleDue
  cases b.kinds.any <;> cases l.kinds.any <;> simp

theorem Node.settleDue_dueSince (now : Clock) (b n : Node) : (Node.settleDue now b n).dueSince =
    if b.statePending = false ∧ n.statePending = true then now else n.dueSince := by
  unfold Node.settleDue
  cases b.statePending <;> cases n.statePending <;> simp

namespace State

variable {s t a : State} {x y : Subject} {admitted joined : List Subject}

/-! ### A consistent queue -/

namespace NoticesConsistent

theorem due_eq (h : s.NoticesConsistent) (x : Subject) : s.isDue x = s.kindPending x := by
  obtain ⟨hdue, -⟩ := h
  exact Bool.eq_iff_iff.2 (hdue x)

theorem pending_iff (h : s.NoticesConsistent) (x : Subject) :
    s.kindPending x = true ↔ s.queued x ∨ x ∈ s.notice.deferred := by
  obtain ⟨hdue, hwait, -⟩ := h
  rw [← hdue, hwait]

theorem queued_pending (h : s.NoticesConsistent) {e : QueueEntry} (he : e ∈ s.notice.queue) :
    s.kindPending e.subject = true := (h.pending_iff _).2 (.inl ⟨e, he, rfl⟩)

theorem deferred_pending (h : s.NoticesConsistent) (hx : x ∈ s.notice.deferred) :
    s.kindPending x = true := (h.pending_iff _).2 (.inr hx)

theorem not_deferred (h : s.NoticesConsistent) {e : QueueEntry} (he : e ∈ s.notice.queue) :
    e.subject ∉ s.notice.deferred := by
  obtain ⟨-, -, hapart, -⟩ := h
  exact hapart _ ⟨e, he, rfl⟩

theorem not_pending (h : s.NoticesConsistent) (hx : s.kindPending x = false) :
    x ∉ s.notice.deferred := fun hd => by
  rw [h.deferred_pending hd] at hx
  cases hx

theorem rising (h : s.NoticesConsistent) : Rising s.notice.deferred := by
  obtain ⟨-, -, -, -, hr, -⟩ := h
  exact hr

theorem full (h : s.NoticesConsistent) (hd : s.notice.deferred ≠ []) : s.notice.queue.length = 32 := by
  obtain ⟨-, -, -, -, -, hf, -⟩ := h
  exact hf hd

theorem room (h : s.NoticesConsistent) : s.notice.queue.length ≤ 32 := by
  obtain ⟨-, -, -, -, -, -, hr, -⟩ := h
  exact hr

end NoticesConsistent

/-! ### What an event may do before it closes -/

/-- The notice due marks, the queue and the deferred set are as they were: only the closing of an event
writes them. -/
structure SameDue (s t : State) : Prop where
  due : ∀ x, t.isDue x = s.isDue x
  since : ∀ x, t.dueSince x = s.dueSince x
  queue : t.notice.queue = s.notice.queue
  deferred : t.notice.deferred = s.notice.deferred
  next : t.notice.nextAdmission = s.notice.nextAdmission

theorem SameDue.refl (s : State) : s.SameDue s := ⟨fun _ => rfl, fun _ => rfl, rfl, rfl, rfl⟩

theorem SameDue.trans (h : s.SameDue a) (k : a.SameDue t) : s.SameDue t where
  due x := (k.due x).trans (h.due x)
  since x := (k.since x).trans (h.since x)
  queue := k.queue.trans h.queue
  deferred := k.deferred.trans h.deferred
  next := k.next.trans h.next

/-- The state of an event with its due marks settled, before its subjects leave and join. -/
def dueSettled (before after : State) : State := { after with
  lanes := Table.zipWith (Lane.settleDue after.now) before.lanes after.lanes
  nodes := Table.zipWith (Node.settleDue after.now) before.nodes after.nodes }

/-- Subjects whose kinds an event empties, and those whose kinds it fills, in subject order. -/
def leaving (before after : State) : List Subject :=
  Subject.all.filter (fun x => before.kindPending x && !after.kindPending x)

def joining (before after : State) : List Subject :=
  Subject.all.filter (fun x => !before.kindPending x && after.kindPending x)

theorem settleNotices_eq (s a : State) : settleNotices s a =
    (joining s a).foldl joinQueue ((dueSettled s a).leaveQueue (leaving s a)) := rfl

theorem settleNotices_frame (s a : State) : (dueSettled s a).SameButQueue (settleNotices s a) :=
  (leaveQueue_frame _ _).trans (joinAll_frame _ _)

@[simp] theorem mem_leaving : x ∈ leaving s a ↔ s.kindPending x = true ∧ a.kindPending x = false := by
  simp [leaving]

@[simp] theorem mem_joining : x ∈ joining s a ↔ s.kindPending x = false ∧ a.kindPending x = true := by
  simp [joining]

theorem joining_rising (s a : State) : Rising (joining s a) := List.Pairwise.filter _ all_rising

theorem dueSettled_kindPending (s a : State) (x : Subject) :
    (dueSettled s a).kindPending x = a.kindPending x := by
  cases x <;> simp [dueSettled, kindPending, Lane.settleDue_kinds, Node.settleDue_statePending]

theorem dueSettled_isDue (hs : s.NoticesConsistent) (ha : s.SameDue a) (x : Subject) :
    (dueSettled s a).isDue x = a.kindPending x := by
  have hx := (ha.due x).trans (hs.due_eq x)
  cases x <;> simp only [dueSettled, State.isDue, kindPending, Table.get_zipWith] at *
  · exact Lane.settleDue_due hx
  · exact Node.settleDue_due hx

theorem dueSettled_dueSince (ha : s.SameDue a) (x : Subject) : (dueSettled s a).dueSince x =
    if s.kindPending x = false ∧ a.kindPending x = true then a.backbone.clock else s.dueSince x := by
  rw [← ha.since x]
  cases x <;> simp only [dueSettled, State.dueSince, kindPending, Table.get_zipWith]
  · exact Lane.settleDue_dueSince _ _ _
  · exact Node.settleDue_dueSince _ _ _

/-! ### Those that leave, and those admitted in their places -/

/-- A pending subject stays pending exactly if it does not leave. -/
theorem contains_leaving (h : s.kindPending x = true) :
    (!(leaving s a).contains x) = a.kindPending x := by
  rw [Bool.eq_iff_iff]
  simp [h]

/-- The queue without those whose kinds became empty. -/
theorem dueSettled_without_queue (hs : s.NoticesConsistent) (ha : s.SameDue a) :
    ((dueSettled s a).without (leaving s a)).notice.queue =
      s.notice.queue.filter (fun e => a.kindPending e.subject) := by
  have hq : (dueSettled s a).notice.queue = s.notice.queue := ha.queue
  simp only [without, hq]
  exact List.filter_congr fun e he => contains_leaving (hs.queued_pending he)

theorem mem_dueSettled_without (hs : s.NoticesConsistent) (ha : s.SameDue a) :
    y ∈ ((dueSettled s a).without (leaving s a)).notice.deferred ↔
      y ∈ s.notice.deferred ∧ a.kindPending y = true := by
  have hd : (dueSettled s a).notice.deferred = s.notice.deferred := ha.deferred
  simp only [without, hd, List.mem_filter]
  exact and_congr_right fun hy => by rw [contains_leaving (hs.deferred_pending hy)]

/-- The queue after the leaving and the admission of one event. -/
def afterLeaving (s a : State) : State := (dueSettled s a).leaveQueue (leaving s a)

/-- `admitted` have taken the places that the event freed; those still deferred wait behind a full queue. -/
structure Left (s a : State) (admitted : List Subject) : Prop
    extends ((dueSettled s a).without (leaving s a)).Admitted admitted (afterLeaving s a) where
  rising : Rising (afterLeaving s a).notice.deferred
  bounded : (afterLeaving s a).notice.queue.length ≤ 32
  full : (afterLeaving s a).notice.deferred = [] ∨ 32 ≤ (afterLeaving s a).notice.queue.length
  mem_deferred : ∀ y, y ∈ (afterLeaving s a).notice.deferred ↔
    y ∈ s.notice.deferred ∧ a.kindPending y = true ∧ y ∉ admitted

theorem exists_left (hs : s.NoticesConsistent) (ha : s.SameDue a) : ∃ admitted, Left s a admitted := by
  have hfull : (dueSettled s a).notice.deferred ≠ [] → 32 ≤ (dueSettled s a).notice.queue.length := by
    intro hd
    have hd' : s.notice.deferred ≠ [] := ha.deferred ▸ hd
    exact (hs.full hd').symm.le.trans (congrArg List.length ha.queue).symm.le
  obtain ⟨admitted, hadm, hstop⟩ := leaveQueue_admitted (leaving s a) hfull
  refine ⟨admitted, hadm, ?_, ?_, hstop, fun y => ?_⟩
  · rw [afterLeaving, hadm.deferred]
    exact List.Pairwise.filter _ (List.Pairwise.filter _ (ha.deferred ▸ hs.rising))
  · rcases hadm.room with rfl | h
    · rw [afterLeaving, hadm.length, dueSettled_without_queue hs ha, List.length_nil, Nat.add_zero]
      exact (List.length_filter_le _ _).trans hs.room
    · exact h
  · rw [afterLeaving, hadm.deferred, List.mem_filter, mem_dueSettled_without hs ha, and_assoc]
    simp

/-! ### Those that join -/

/-- Of those made due, `joined` have joined the queue and the others are deferred. -/
structure Arrived (s a : State) (joined rest : List Subject) : Prop
    extends (afterLeaving s a).Joined joined rest (settleNotices s a) where
  starts : ∀ y, y ∈ joined ++ rest ↔ s.kindPending y = false ∧ a.kindPending y = true
  ascending : Rising (joined ++ rest)

theorem Left.exists_arrived (hs : s.NoticesConsistent) (h : Left s a admitted) :
    ∃ joined rest, Arrived s a joined rest := by
  obtain ⟨joined, rest, hsplit, hjoin⟩ := joinAll_joined (xs := joining s a) (s := afterLeaving s a)
    fun x hx hd => hs.not_pending (mem_joining.1 hx).1 ((h.mem_deferred x).1 hd).1
  exact ⟨joined, rest, hjoin, fun y => by rw [← hsplit, mem_joining], hsplit ▸ joining_rising s a⟩

namespace Arrived

variable {rest : List Subject}

theorem joined_before (h : Arrived s a joined rest) : ∀ x ∈ joined, ∀ y ∈ rest, x.number < y.number :=
  (List.pairwise_append.1 h.ascending).2.2

theorem mem_rest (h : Arrived s a joined rest) :
    y ∈ rest ↔ s.kindPending y = false ∧ a.kindPending y = true ∧ y ∉ joined := by
  have hdisj : y ∈ joined → y ∉ rest := fun hj hr => Nat.lt_irrefl _ (h.joined_before y hj y hr)
  rw [← and_assoc, ← h.starts, List.mem_append]
  tauto

theorem mem_deferred (h : Arrived s a joined rest) (hl : Left s a admitted) (y : Subject) :
    y ∈ (settleNotices s a).notice.deferred ↔
      (y ∈ s.notice.deferred ∧ a.kindPending y = true ∧ y ∉ admitted)
        ∨ (s.kindPending y = false ∧ a.kindPending y = true ∧ y ∉ joined) := by
  rw [h.deferred, hl.mem_deferred, h.mem_rest]

theorem bounded (h : Arrived s a joined rest) (hl : Left s a admitted) :
    (settleNotices s a).notice.queue.length ≤ 32 := by
  rcases h.room with rfl | hr
  · rw [h.length, List.length_nil, Nat.add_zero]
    exact hl.bounded
  · exact hr

/-- Subjects are deferred only behind a full queue. -/
theorem le_length (h : Arrived s a joined rest) (hl : Left s a admitted)
    (hne : (settleNotices s a).notice.deferred ≠ []) : 32 ≤ (settleNotices s a).notice.queue.length := by
  rcases h.full with rfl | hf
  · rcases hl.full with hf | hf
    · obtain ⟨y, hy⟩ := List.exists_mem_of_ne_nil _ hne
      rw [h.deferred, hf] at hy
      simp at hy
    · rw [h.length]
      exact Nat.le_add_right_of_le hf
  · exact hf

/-- A subject joins the queue only after every deferred one has found a place. -/
theorem none_deferred (h : Arrived s a joined rest) (hl : Left s a admitted) (hne : joined ≠ []) :
    (afterLeaving s a).notice.deferred = [] := by
  refine hl.full.resolve_right fun hf => ?_
  have hlen := h.length
  have hmax := h.bounded hl
  have hpos := List.length_pos_of_ne_nil hne
  omega

end Arrived

/-! ### What the closing of an event leaves -/

/-- From `s` to `t` one event has been closed: notice due and due since follow the kinds; the entries whose
kinds stay keep their places, `admitted` come from the deferred set in the queue order, then `joined` in
subject order while there is room, and the rest are deferred (R85, R88 to R90). -/
structure Settled (s t : State) (admitted joined : List Subject) : Prop where
  due : ∀ x, t.isDue x = t.kindPending x
  since : ∀ x, t.dueSince x =
    if s.kindPending x = false ∧ t.kindPending x = true then t.backbone.clock else s.dueSince x
  queue : t.notice.queue = s.notice.queue.filter (fun e => t.kindPending e.subject)
    ++ numbered s.notice.nextAdmission (admitted ++ joined)
  next : t.notice.nextAdmission = s.notice.nextAdmission + (admitted ++ joined).length
  admitted_mem : ∀ x ∈ admitted, x ∈ s.notice.deferred ∧ t.kindPending x = true
  admitted_nodup : admitted.Nodup
  admitted_ordered : ∀ R, Decides t.admits R s.notice.deferred → admitted.Pairwise R
    ∧ ∀ x ∈ admitted, ∀ y ∈ s.notice.deferred, y ∈ t.notice.deferred → R x y
  joined_starts : ∀ x ∈ joined, s.kindPending x = false ∧ t.kindPending x = true
  joined_rising : Rising joined
  joined_first : ∀ x ∈ joined, ∀ y ∈ t.notice.deferred, s.kindPending y = false → x.number < y.number
  joined_last : joined ≠ [] → ∀ y ∈ t.notice.deferred, y ∉ s.notice.deferred
  deferred : ∀ y, y ∈ t.notice.deferred ↔
    (y ∈ s.notice.deferred ∧ t.kindPending y = true ∧ y ∉ admitted)
      ∨ (s.kindPending y = false ∧ t.kindPending y = true ∧ y ∉ joined)
  rising : Rising t.notice.deferred
  room : t.notice.queue.length ≤ 32
  full : t.notice.deferred ≠ [] → t.notice.queue.length = 32

/-- The closing of an event over a consistent queue. -/
theorem settleNotices_settled (hs : s.NoticesConsistent) (ha : s.SameDue a) :
    ∃ admitted joined, s.Settled (settleNotices s a) admitted joined := by
  obtain ⟨admitted, hl⟩ := exists_left hs ha
  obtain ⟨joined, rest, hj⟩ := hl.exists_arrived hs
  have frame := settleNotices_frame s a
  have kind (x : Subject) : (settleNotices s a).kindPending x = a.kindPending x :=
    (frame.kindPending x).trans (dueSettled_kindPending s a x)
  have clock : (settleNotices s a).backbone.clock = a.backbone.clock := by
    obtain ⟨-, -, -, -, hb⟩ := frame.same
    exact congrArg Backbone.clock hb
  have enqueued : ((dueSettled s a).without (leaving s a)).Enqueued (admitted ++ joined)
      (settleNotices s a) := hl.toEnqueued.append hj.toEnqueued
  have old {y : Subject} (hy : y ∈ s.notice.deferred) (hd : y ∈ (settleNotices s a).notice.deferred) :
      y ∈ (afterLeaving s a).notice.deferred := by
    rcases (hj.mem_deferred hl y).1 hd with h | ⟨h, -⟩
    · exact (hl.mem_deferred y).2 h
    · exact absurd hy (hs.not_pending h)
  refine ⟨admitted, joined, {
    due := fun x => by rw [kind, frame.isDue, dueSettled_isDue hs ha]
    since := fun x => by rw [kind, frame.dueSince, dueSettled_dueSince ha, clock]
    queue := ?_
    next := by
      rw [enqueued.next]
      exact congrArg (· + _) ha.next
    admitted_mem := fun x hx => by
      rw [kind]
      exact (mem_dueSettled_without hs ha).1 (hl.mem x hx)
    admitted_nodup := hl.nodup
    admitted_ordered := fun R hR => ?_
    joined_starts := fun x hx => by
      rw [kind]
      exact (hj.starts x).1 (List.mem_append_left _ hx)
    joined_rising := (List.pairwise_append.1 hj.ascending).1
    joined_first := fun x hx y hy hk => ?_
    joined_last := fun hne y hy hy' => ?_
    deferred := fun y => by rw [hj.mem_deferred hl, kind]
    rising := hj.rising hl.rising
    room := hj.bounded hl
    full := fun hne => (hj.bounded hl).antisymm (hj.le_length hl hne) }⟩
  · rw [enqueued.queue, dueSettled_without_queue hs ha]
    simp only [kind]
    exact congrArg (fun k => _ ++ numbered k _) ha.next
  · obtain ⟨pairs, others⟩ := hl.ordered R <| by
      rw [frame.admits] at hR
      exact hR.mono fun y hy => ((mem_dueSettled_without hs ha).1 hy).1
    exact ⟨pairs, fun x hx y hy hd => others x hx y (old hy hd)⟩
  · rcases (hj.mem_deferred hl y).1 hy with ⟨h, -⟩ | h
    · exact absurd h (hs.not_pending hk)
    · exact hj.joined_before x hx y (hj.mem_rest.2 h)
  · have hm := old hy' hy
    rw [hj.none_deferred hl hne] at hm
    cases hm

/-! ### Consequences of a closed event -/

namespace Settled

variable (h : s.Settled t admitted joined)
include h

/-- A subject is due after the event exactly if it waits. -/
theorem pending_iff (hs : s.NoticesConsistent) (x : Subject) :
    t.kindPending x = true ↔ t.queued x ∨ x ∈ t.notice.deferred := by
  have queued : t.queued x ↔ (s.queued x ∧ t.kindPending x = true) ∨ x ∈ admitted ∨ x ∈ joined := by
    unfold State.queued
    simp only [h.queue, List.mem_append, List.mem_filter, or_and_right, exists_or, exists_mem_numbered]
    refine or_congr_left ⟨?_, ?_⟩
    · rintro ⟨e, ⟨he, hk⟩, rfl⟩
      exact ⟨⟨e, he, rfl⟩, hk⟩
    · rintro ⟨⟨e, he, rfl⟩, hk⟩
      exact ⟨e, ⟨he, hk⟩, rfl⟩
  have hold := hs.pending_iff x
  have hadm := h.admitted_mem x
  have hjoin := h.joined_starts x
  rw [queued, h.deferred]
  cases hx : s.kindPending x <;> simp only [hx] at * <;> tauto

/-- No subject waits in both places. -/
theorem apart (hs : s.NoticesConsistent) (x : Subject) (hq : t.queued x) : x ∉ t.notice.deferred := by
  obtain ⟨e, he, rfl⟩ := hq
  rw [h.deferred]
  rw [h.queue, List.mem_append, List.mem_filter] at he
  rcases he with ⟨he, -⟩ | he
  · simp [hs.not_deferred he, hs.queued_pending he]
  · rcases List.mem_append.1 (mem_numbered_subject he) with hm | hm
    · simp [hm, hs.deferred_pending (h.admitted_mem _ hm).1]
    · simp [hm, hs.not_pending (h.joined_starts _ hm).1]

theorem subjects_nodup (hs : s.NoticesConsistent) : (t.notice.queue.map QueueEntry.subject).Nodup := by
  have hkept : ((s.notice.queue.filter (fun e => t.kindPending e.subject)).map
      QueueEntry.subject).Nodup := by
    obtain ⟨-, -, -, hnodup, -⟩ := hs
    exact (List.filter_sublist.map _).nodup hnodup
  rw [h.queue, List.map_append, numbered_subjects]
  refine hkept.append (h.admitted_nodup.append h.joined_rising.nodup fun x ha hj => ?_) fun x hq hn => ?_
  · exact hs.not_pending (h.joined_starts x hj).1 (h.admitted_mem x ha).1
  · obtain ⟨e, he, rfl⟩ := List.mem_map.1 hq
    have he' := (List.mem_filter.1 he).1
    rcases List.mem_append.1 hn with hm | hm
    · exact hs.not_deferred he' (h.admitted_mem _ hm).1
    · have hp := (h.joined_starts _ hm).1
      rw [hs.queued_pending he'] at hp
      cases hp

theorem numbers_rise (hs : s.NoticesConsistent) :
    t.notice.queue.Pairwise (fun e f => e.number < f.number) := by
  obtain ⟨-, -, -, -, -, -, -, hrise, hnext⟩ := hs
  rw [h.queue, List.pairwise_append]
  exact ⟨hrise.filter _, numbered_rising, fun e he f hf =>
    (hnext e (List.mem_filter.1 he).1).trans_le (mem_numbered_number hf).1⟩

theorem numbers_below (hs : s.NoticesConsistent) :
    ∀ e ∈ t.notice.queue, e.number < t.notice.nextAdmission := by
  obtain ⟨-, -, -, -, -, -, -, -, hnext⟩ := hs
  intro e he
  rw [h.queue, List.mem_append] at he
  rw [h.next]
  rcases he with he | he
  · exact Nat.lt_add_right _ (hnext e (List.mem_filter.1 he).1)
  · exact (mem_numbered_number he).2

/-- The closing of an event keeps the queue and the deferred set consistent. -/
theorem consistent (hs : s.NoticesConsistent) : t.NoticesConsistent :=
  ⟨fun x => by rw [h.due], fun x => by rw [h.due, h.pending_iff hs], h.apart hs, h.subjects_nodup hs,
    h.rising, h.full, h.room, h.numbers_rise hs, h.numbers_below hs⟩

end Settled

end State

end Sys2Proof.Machine
end

section
/-! What a command is to the Notice Unit: at most one event, which leaves the due marks to its closing (R85) and
after which the beacons follow (R96). First the lane and node records, then the operations of the blocks. -/

namespace Sys2Proof.Machine

/-! ### Records whose due mark stays until the event closes -/

/-- Notice due and due since are as they were. -/
structure Lane.KeepsDue (l k : Lane) : Prop where
  due : k.due = l.due
  since : k.dueSince = l.dueSince

structure Node.KeepsDue (n k : Node) : Prop where
  due : k.due = n.due
  since : k.dueSince = n.dueSince

theorem Node.KeepsDue.refl (n : Node) : n.KeepsDue n := ⟨rfl, rfl⟩

namespace Lane

variable {l k m : Lane} (nodes : Table Node 64)

theorem KeepsDue.refl (l : Lane) : l.KeepsDue l := ⟨rfl, rfl⟩

theorem KeepsDue.trans (h : l.KeepsDue k) (g : k.KeepsDue m) : l.KeepsDue m :=
  ⟨g.due.trans h.due, g.since.trans h.since⟩

theorem KeepsDue.after (g : k.KeepsDue m) (h : l.KeepsDue k) : l.KeepsDue m := h.trans g

theorem KeepsDue.ite {c : Prop} [Decidable c] (h : l.KeepsDue k) (g : l.KeepsDue m) :
    l.KeepsDue (if c then k else m) := by
  split_ifs
  · exact h
  · exact g

theorem keepsDue_judge {groups : Table Group 16} {now : Clock} {hold hold' : Bool} (h : l.KeepsDue k) :
    l.KeepsDue (judge groups now hold hold' l k) := by
  rw [judge_frame]
  exact ⟨h.due, h.since⟩

theorem keepsDue_cancelZeroing (l : Lane) : l.KeepsDue l.cancelZeroing := by
  rw [cancelZeroing_record]
  exact ⟨rfl, rfl⟩

theorem keepsDue_enterBlind (l : Lane) : l.KeepsDue l.enterBlind := by
  rw [enterBlind_record]
  exact ⟨rfl, rfl⟩

theorem keepsDue_enterAcquiring (l : Lane) : l.KeepsDue l.enterAcquiring := ⟨rfl, rfl⟩

theorem keepsDue_enterUnbound (l : Lane) : l.KeepsDue l.enterUnbound :=
  have cleared : l.KeepsDue l.clearWindow.cancelZeroing := .after (keepsDue_cancelZeroing _) ⟨rfl, rfl⟩
  ⟨cleared.due, cleared.since⟩

theorem keepsDue_enterBound (l : Lane) : l.KeepsDue (l.enterBound nodes) :=
  .ite l.keepsDue_enterBlind l.keepsDue_enterAcquiring

theorem keepsDue_setDoubt (l : Lane) : l.KeepsDue (l.setDoubt nodes) := ⟨rfl, rfl⟩

theorem keepsDue_nodeLost (l : Lane) : l.KeepsDue l.nodeLost := .ite l.keepsDue_enterBlind (.refl l)

theorem keepsDue_disturb (l : Lane) : l.KeepsDue l.disturb := .ite (.refl l) ⟨rfl, rfl⟩

theorem keepsDue_bayKey (now : Clock) (l : Lane) : l.KeepsDue (l.bayKey now) := .ite ⟨rfl, rfl⟩ (.refl l)

theorem keepsDue_announce (l : Lane) : l.KeepsDue l.announce := .ite ⟨rfl, rfl⟩ (.refl l)

theorem keepsDue_acknowledge (hold : Bool) (b : Band) (l : Lane) :
    l.KeepsDue (l.acknowledge hold b) := by
  rw [acknowledge_record]
  exact ⟨rfl, rfl⟩

theorem keepsDue_takeDeadlines (now : Clock) (l : Lane) : l.KeepsDue (State.takeDeadlines now l) := by
  have zeroing : l.KeepsDue (l.zeroingTimed now) := by
    unfold zeroingTimed
    split
    · exact .ite ⟨rfl, rfl⟩ (.refl l)
    · exact .refl l
  refine zeroing.trans ?_
  rw [takeDeadlines_eq]
  unfold replenishTimed
  split
  · exact .ite ⟨rfl, rfl⟩ (.refl _)
  · exact .refl _

/-- A settled result writes counts, bands and kinds (R43). -/
theorem keepsDue_settledResult (w : Int) (l : Lane) : l.KeepsDue (l.settledResult w) :=
  .ite ⟨rfl, rfl⟩ <| .ite ⟨rfl, rfl⟩ <| .ite ⟨rfl, rfl⟩ ⟨rfl, rfl⟩

theorem keepsDue_joinWindow (x : Int) (l : Lane) : l.KeepsDue (l.joinWindow x) :=
  .ite ⟨rfl, rfl⟩ <| .ite (.after (keepsDue_settledResult _ _) ⟨rfl, rfl⟩) ⟨rfl, rfl⟩

theorem keepsDue_takeSample (sum : Int) (valid : Bool) (l : Lane) :
    l.KeepsDue (l.takeSample nodes sum valid) := by
  have counting : l.KeepsDue (if valid then l.joinWindow sum else l.enterBlind) :=
    .ite (l.keepsDue_joinWindow sum) l.keepsDue_enterBlind
  unfold takeSample
  split
  · exact .refl l
  · exact .ite ⟨rfl, rfl⟩ (.refl l)
  all_goals exact counting

theorem keepsDue_capture (calibration : Table Calibration 256) (slot : Fin 64) (raws : List RawCell)
    (l : Lane) : l.KeepsDue (l.capture nodes calibration slot raws) :=
  .ite (.ite (.after (keepsDue_takeSample nodes _ _ _) ⟨rfl, rfl⟩) ⟨rfl, rfl⟩) (.refl l)

theorem keepsDue_rewrite (c : LaneConfig) (l : Lane) : l.KeepsDue (l.rewrite nodes c) := by
  have written : l.KeepsDue (l.rewritten c) :=
    .after (keepsDue_cancelZeroing _) ⟨rfl, rfl⟩
  have state : l.KeepsDue (({ l with config := c } : Lane).rewriteState nodes l.config) := by
    rw [rewriteState_eq]
    exact .ite
      (.ite written (.ite ((written.trans (keepsDue_enterBound nodes _)).trans (keepsDue_setDoubt nodes _))
        (written.trans (keepsDue_enterUnbound _))))
      (.ite (written.trans (keepsDue_enterAcquiring _)) written)
  exact .ite ⟨state.due, state.since⟩ ⟨state.due, state.since⟩

theorem keepsDue_complete (changed : Table Bool 64) (new : List CellRef) (flag : Bool) (l : Lane) :
    l.KeepsDue (l.complete nodes changed new flag) := by
  have relisted : l.KeepsDue (l.relisted new) :=
    .after (keepsDue_cancelZeroing _) ⟨rfl, rfl⟩
  have installed : l.KeepsDue (l.install nodes new) := by
    rw [install_eq]
    refine KeepsDue.trans ?_ (keepsDue_setDoubt nodes _)
    exact .ite (relisted.trans (keepsDue_enterBound nodes _))
      (.ite (relisted.trans (keepsDue_enterUnbound _)) relisted)
  exact (KeepsDue.ite installed (.refl l)).trans ⟨rfl, rfl⟩

theorem keepsDue_warm (l : Lane) : l.KeepsDue l.warm := by
  have warmed : l.KeepsDue l.warmed := .after (keepsDue_cancelZeroing _) ⟨rfl, rfl⟩
  rw [warm_eq]
  exact .ite (warmed.trans (keepsDue_enterAcquiring _)) warmed

end Lane

theorem Node.keepsDue_judge (limit : Nat) (auto : Bool) (o : VisitOutcome) (n : Node) :
    n.KeepsDue (n.judge limit auto o) := by
  have seen : n.KeepsDue (n.seeError o) := by cases o <;> exact ⟨rfl, rfl⟩
  have bad (b : Node) : b.KeepsDue (b.bad auto) := by
    unfold Node.bad
    split_ifs <;> exact ⟨rfl, rfl⟩
  have probe (b : Node) : b.KeepsDue (b.probe o) := by
    unfold Node.probe
    split
    · simp only
      split_ifs <;> exact ⟨rfl, rfl⟩
    all_goals exact ⟨rfl, rfl⟩
  have applied : (n.seeError o).KeepsDue (n.judge limit auto o) := by
    unfold Node.judge
    simp only
    split_ifs
    · exact probe _
    · split
      · exact ⟨rfl, rfl⟩
      · exact bad _
      · exact bad _
      · exact ⟨rfl, rfl⟩
  exact ⟨applied.due.trans seen.due, applied.since.trans seen.since⟩

end Sys2Proof.Machine
end

section
/-! The operations of the blocks as the Notice Unit sees them: some leave it calm, some are a part of an event, and
some are an event. -/

namespace Sys2Proof.Machine

namespace State

variable {s t u a b : State}

/-! ### Calm operations and events -/

theorem demanded_congr {beacon : Fin 4} {low : Nat} (hg : t.notice.groups = s.notice.groups)
    (hl : ∀ n, (t.lanes.get n).beaconLit = (s.lanes.get n).beaconLit
      ∧ (t.lanes.get n).config.group = (s.lanes.get n).config.group) :
    t.demanded beacon low ↔ s.demanded beacon low := by
  unfold demanded
  simp only [hg, (hl _).1, (hl _).2]

/-- Outputs of the same shape follow the same lanes and groups. -/
theorem BeaconsFollow.congr (h : s.BeaconsFollow) (ho : t.notice.output = s.notice.output)
    (hd : ∀ beacon low, t.demanded beacon low ↔ s.demanded beacon low)
    (hb : ∀ beacon, (t.notice.beacons.get beacon = .off ↔ s.notice.beacons.get beacon = .off)
      ∧ (t.notice.beacons.get beacon).isFlashing = (s.notice.beacons.get beacon).isFlashing) :
    t.BeaconsFollow := by
  intro beacon
  obtain ⟨hoff, hflash⟩ := hb beacon
  rw [ne_eq, hoff, hflash, ho, hd, hd]
  exact h beacon

/-- Nothing becomes due, no kind comes or goes, and the beacons follow if they did. -/
structure Calm (s t : State) : Prop extends s.SameDue t where
  kind : ∀ x, t.kindPending x = s.kindPending x
  follow : s.BeaconsFollow → t.BeaconsFollow

theorem Calm.trans (h : s.Calm t) (k : t.Calm u) : s.Calm u where
  toSameDue := h.toSameDue.trans k.toSameDue
  kind x := (k.kind x).trans (h.kind x)
  follow := k.follow ∘ h.follow

theorem Calm.ite {c : Prop} [Decidable c] (h : s.Calm t) (k : s.Calm u) :
    s.Calm (if c then t else u) := by
  split_ifs
  · exact h
  · exact k

/-- The same records, and a Notice Unit with the same subjects waiting and the same beacons. -/
theorem Calm.of_unit (hl : t.lanes = s.lanes := by rfl) (hn : t.nodes = s.nodes := by rfl)
    (hq : t.notice.queue = s.notice.queue := by rfl)
    (hd : t.notice.deferred = s.notice.deferred := by rfl)
    (hx : t.notice.nextAdmission = s.notice.nextAdmission := by rfl)
    (hg : t.notice.groups = s.notice.groups := by rfl)
    (ho : t.notice.output = s.notice.output := by rfl)
    (hb : t.notice.beacons = s.notice.beacons := by rfl) : s.Calm t where
  due x := by cases x <;> simp only [isDue, hl, hn]
  since x := by cases x <;> simp only [dueSince, hl, hn]
  queue := hq
  deferred := hd
  next := hx
  kind x := by cases x <;> simp only [kindPending, hl, hn]
  follow h := h.congr ho (fun _ _ => demanded_congr hg (by simp [hl])) (by simp [hb])

/-- The same records and the same Notice Unit. -/
theorem Calm.of_same (hl : t.lanes = s.lanes) (hn : t.nodes = s.nodes) (hu : t.notice = s.notice) :
    s.Calm t := by
  refine .of_unit hl hn ?_ ?_ ?_ ?_ ?_ ?_ <;> rw [hu]

theorem Calm.refl (s : State) : s.Calm s := .of_unit

theorem SameDue.of_calm (h : s.Calm t) : s.SameDue t := h.toSameDue

/-- The passing of time acts on no subject and no beacon pattern. -/
theorem calm_elapse (s : State) (d : Nat) : s.Calm (s.elapse d) where
  due _ := rfl
  since _ := rfl
  queue := rfl
  deferred := rfl
  next := rfl
  kind _ := rfl
  follow h := h.congr rfl (fun _ _ => Iff.rfl) fun beacon => by
    have he : (s.elapse d).notice.beacons.get beacon = (s.notice.beacons.get beacon).elapse d :=
      Table.get_map _ _ _
    rw [he]
    cases s.notice.beacons.get beacon <;> simp [Beacon.elapse, Beacon.isFlashing]

/-- What decides who waits, since when, and in which order. -/
structure SameWaiting (s t : State) : Prop where
  kind : t.kindPending = s.kindPending
  due : t.isDue = s.isDue
  since : t.dueSince = s.dueSince
  priority : t.priority = s.priority
  order : t.mgmt.settings.queueOrder = s.mgmt.settings.queueOrder
  clock : t.backbone.clock = s.backbone.clock
  queue : t.notice.queue = s.notice.queue
  deferred : t.notice.deferred = s.notice.deferred
  next : t.notice.nextAdmission = s.notice.nextAdmission

theorem SameWaiting.refl (s : State) : s.SameWaiting s := ⟨rfl, rfl, rfl, rfl, rfl, rfl, rfl, rfl, rfl⟩

theorem SameWaiting.trans (h : s.SameWaiting t) (k : t.SameWaiting u) : s.SameWaiting u :=
  ⟨k.kind.trans h.kind, k.due.trans h.due, k.since.trans h.since, k.priority.trans h.priority,
    k.order.trans h.order, k.clock.trans h.clock, k.queue.trans h.queue, k.deferred.trans h.deferred,
    k.next.trans h.next⟩

theorem SameWaiting.admits (h : s.SameWaiting t) : t.admits = s.admits := by
  funext x y
  simp only [State.admits, ahead, dueBefore, h.order, h.priority, h.since]

theorem Settled.of_sameWaiting {admitted joined : List Subject} (h : s.Settled t admitted joined)
    (k : t.SameWaiting u) : s.Settled u admitted joined where
  due := by simpa only [k.due, k.kind] using h.due
  since := by simpa only [k.since, k.kind, k.clock] using h.since
  queue := by simpa only [k.queue, k.kind] using h.queue
  next := k.next.trans h.next
  admitted_mem := by simpa only [k.kind] using h.admitted_mem
  admitted_nodup := h.admitted_nodup
  admitted_ordered := by simpa only [k.admits, k.deferred] using h.admitted_ordered
  joined_starts := by simpa only [k.kind] using h.joined_starts
  joined_rising := h.joined_rising
  joined_first := by simpa only [k.deferred] using h.joined_first
  joined_last := by simpa only [k.deferred] using h.joined_last
  deferred := by simpa only [k.deferred, k.kind] using h.deferred
  rising := k.deferred ▸ h.rising
  room := k.queue ▸ h.room
  full := by simpa only [k.deferred, k.queue] using h.full

/-- From `s` to `t` the Notice Unit sees one event, closed as R85 says, and the beacons follow at its end. -/
structure Event (s t : State) : Prop where
  closed : ∃ a, s.SameDue a ∧ (settleNotices s a).SameWaiting t
  follow : s.BeaconsFollow → t.BeaconsFollow

/-- The closing of an event reads only the kinds from before it. -/
theorem settleNotices_congr (h : ∀ x, b.kindPending x = s.kindPending x) (a : State) :
    settleNotices b a = settleNotices s a := by
  have hl : Table.zipWith (Lane.settleDue a.now) b.lanes a.lanes =
      Table.zipWith (Lane.settleDue a.now) s.lanes a.lanes := Table.ext_get fun n => by
    have hn : (b.lanes.get n).kinds.any = (s.lanes.get n).kinds.any := h (.lane n)
    simp only [Table.get_zipWith, Lane.settleDue, hn]
  have hn : Table.zipWith (Node.settleDue a.now) b.nodes a.nodes =
      Table.zipWith (Node.settleDue a.now) s.nodes a.nodes := Table.ext_get fun i => by
    have hi : (b.nodes.get i).statePending = (s.nodes.get i).statePending := h (.node i)
    simp only [Table.get_zipWith, Node.settleDue, hi]
  simp only [settleNotices, h, hl, hn]

theorem settleNotices_self (s : State) : settleNotices s s = s := by
  have hl : Table.zipWith (Lane.settleDue s.now) s.lanes s.lanes = s.lanes :=
    Table.ext_get fun n => by simp
  have hn : Table.zipWith (Node.settleDue s.now) s.nodes s.nodes = s.nodes :=
    Table.ext_get fun i => by simp
  simp [settleNotices, hl, hn, leaveQueue]

theorem Calm.event (h : s.Calm t) : s.Event t where
  closed := by
    refine ⟨t, h.toSameDue, ?_⟩
    rw [← settleNotices_congr h.kind, settleNotices_self]
    exact .refl t
  follow := h.follow

theorem Event.refl (s : State) : s.Event s := (Calm.refl s).event

theorem Event.ite {c : Prop} [Decidable c] (h : s.Event t) (k : s.Event u) :
    s.Event (if c then t else u) := by
  split_ifs
  · exact h
  · exact k

theorem Event.close (h : s.SameDue a) : s.Event (State.close s a) where
  closed := ⟨a, h, ⟨rfl, rfl, rfl, rfl, rfl, rfl, rfl, rfl, rfl⟩⟩
  follow _ := close_follow s a

/-- Calm before an event. -/
theorem Calm.before (h : s.Calm b) (k : b.Event t) : s.Event t where
  closed := by
    obtain ⟨a, ha, hw⟩ := k.closed
    exact ⟨a, h.toSameDue.trans ha, settleNotices_congr h.kind a ▸ hw⟩
  follow := k.follow ∘ h.follow

/-- `t` differs from `s` in nothing that the Notice Unit reads. -/
structure Beside (s t : State) : Prop where
  lanes : t.lanes = s.lanes := by rfl
  nodes : t.nodes = s.nodes := by rfl
  notice : t.notice = s.notice := by rfl
  clock : t.backbone.clock = s.backbone.clock := by rfl
  settings : t.mgmt.settings = s.mgmt.settings := by rfl

theorem Beside.calm (h : s.Beside t) : s.Calm t := .of_same h.lanes h.nodes h.notice

theorem Beside.event (h : s.Beside t) : s.Event t := h.calm.event

theorem Beside.ite {c : Prop} [Decidable c] (h : s.Beside t) (k : s.Beside u) :
    s.Beside (if c then t else u) := by
  split_ifs
  · exact h
  · exact k

theorem Beside.sameWaiting (h : s.Beside t) : s.SameWaiting t where
  kind := funext h.calm.kind
  due := funext h.calm.due
  since := funext h.calm.since
  priority := by funext x; cases x <;> simp only [State.priority, h.lanes, h.notice, h.settings]
  order := by rw [h.settings]
  clock := h.clock
  queue := by rw [h.notice]
  deferred := by rw [h.notice]
  next := by rw [h.notice]

/-- After an event something else changes. -/
theorem Event.beside (h : s.Event t) (k : t.Beside u) : s.Event u where
  closed := by
    obtain ⟨a, ha, hw⟩ := h.closed
    exact ⟨a, ha, hw.trans k.sameWaiting⟩
  follow := k.calm.follow ∘ h.follow

theorem Event.settled (h : s.Event t) (hs : s.NoticesConsistent) :
    ∃ admitted joined, s.Settled t admitted joined := by
  obtain ⟨a, ha, hw⟩ := h.closed
  obtain ⟨admitted, joined, hset⟩ := settleNotices_settled hs ha
  exact ⟨admitted, joined, hset.of_sameWaiting hw⟩

/-- An event keeps the queue and the deferred set consistent. -/
theorem Event.consistent (h : s.Event t) (hs : s.NoticesConsistent) : t.NoticesConsistent :=
  let ⟨_, _, hset⟩ := h.settled hs
  hset.consistent hs

/-! ### Parts of an event -/

/-- Records with their due marks, and the subjects waiting as they were. -/
theorem SameDue.of_records (hl : ∀ n, (s.lanes.get n).KeepsDue (t.lanes.get n))
    (hn : ∀ i, (s.nodes.get i).KeepsDue (t.nodes.get i))
    (hq : t.notice.queue = s.notice.queue := by rfl)
    (hd : t.notice.deferred = s.notice.deferred := by rfl)
    (hx : t.notice.nextAdmission = s.notice.nextAdmission := by rfl) : s.SameDue t where
  due x := by
    cases x with
    | lane n => exact (hl n).due
    | node i => exact (hn i).due
  since x := by
    cases x with
    | lane n => exact (hl n).since
    | node i => exact (hn i).since
  queue := hq
  deferred := hd
  next := hx

theorem SameDue.ite {c : Prop} [Decidable c] (h : s.SameDue t) (k : s.SameDue u) :
    s.SameDue (if c then t else u) := by
  split_ifs
  · exact h
  · exact k

theorem sameDue_mapLanes {f : Lane → Lane} (hf : ∀ l : Lane, l.KeepsDue (f l)) :
    s.SameDue (s.mapLanes f) :=
  .of_records (fun n => by rw [mapLanes_lanes, Table.get_map]; exact hf _) fun _ => .refl _

theorem sameDue_modifyLane (n : Fin 128) {f : Lane → Lane} (hf : ∀ l : Lane, l.KeepsDue (f l)) :
    s.SameDue (s.modifyLane n f) :=
  .of_records (fun m => by
    rw [modifyLane_lanes, Table.get_modify]
    exact .ite (hf _) (.refl _)) fun _ => .refl _

theorem sameDue_setNode (i : Fin 64) {k : Node} (hk : (s.nodes.get i).KeepsDue k) :
    s.SameDue (s.setNode i k) :=
  .of_records (fun _ => .refl _) fun j => by
    rw [setNode_nodes, Table.get_set]
    split_ifs with hj
    · exact hj ▸ hk
    · exact .refl _

theorem sameDue_setSweep (s : State) (g : Segment) (e : SweepEngine) : s.SameDue (s.setSweep g e) :=
  (Calm.of_same (by simp) (by simp) (by simp)).toSameDue

theorem sameDue_refreshBeacons (s : State) : s.SameDue s.refreshBeacons :=
  .of_records (fun _ => .refl _) fun _ => .refl _

/-- A node's record changes but for its due mark, with what a change of its state reports (R131). -/
theorem sameDue_reportNode (i : Fin 64) {k : Node} (hk : (s.nodes.get i).KeepsDue k) :
    s.SameDue (s.reportNode i k) := by
  refine .of_records (fun n => ?_) (fun j => ?_) (by simp) (by simp) (by simp)
  · rw [reportNode_lane]
    refine .ite (Lane.keepsDue_judge ?_) (.refl _)
    exact .after (Lane.keepsDue_setDoubt _ _) (.ite (Lane.keepsDue_nodeLost _) (.refl _))
  · rw [reportNode_node]
    split_ifs with hj
    · subst hj
      exact ⟨hk.due, hk.since⟩
    · exact .refl _

theorem sameDue_nodeOutcome (s : State) (i : Fin 64) (o : VisitOutcome) :
    s.SameDue (s.nodeOutcome i o) := sameDue_reportNode i (Node.keepsDue_judge _ _ _ _)

theorem sameDue_releaseNode (s : State) (i : Fin 64) : s.SameDue (s.releaseNode i) :=
  .ite (.ite (sameDue_reportNode i ⟨rfl, rfl⟩) (sameDue_setNode i ⟨rfl, rfl⟩)) (.refl s)

theorem sameDue_bayKeyEvent (s : State) (i : Fin 64) : s.SameDue (s.bayKeyEvent i) :=
  sameDue_mapLanes fun l => .ite (l.keepsDue_bayKey _) (.refl l)

theorem sameDue_capture (s : State) (i : Fin 64) (cells : List RawCell) : s.SameDue (s.capture i cells) :=
  sameDue_mapLanes fun l => Lane.keepsDue_judge (l.keepsDue_capture _ _ _ _)

theorem sameDue_endVisit (s : State) (g : Segment) (v : Visit) : s.SameDue (s.endVisit g v) :=
  sameDue_setSweep s g _

theorem sameDue_relayStep (s : State) (g : Segment) (v : Visit) : s.SameDue (s.relayStep g v) := by
  unfold relayStep
  split
  · exact .ite (sameDue_endVisit s g v) (sameDue_setSweep s g _)
  · exact sameDue_endVisit s g v

theorem sameDue_goodReading (s : State) (g : Segment) (v : Visit) (r : Reading) :
    s.SameDue (s.goodReading g v r) := by
  unfold goodReading
  have sequenced : s.SameDue { s.nodeOutcome v.slot .good with
      sequences := (s.nodeOutcome v.slot .good).sequences.set v.slot (some r.sequence) } :=
    (sameDue_nodeOutcome s v.slot .good).trans (.of_calm .of_unit)
  have keyed {b : State} (hb : s.SameDue b) (c : Bool) :
      s.SameDue (if c then (b.bayKeyEvent v.slot).refreshBeacons else b) :=
    .ite ((hb.trans (sameDue_bayKeyEvent b _)).trans (sameDue_refreshBeacons _)) hb
  have captured {b : State} (hb : s.SameDue b) (c : Bool) :
      s.SameDue (if c then b.capture v.slot r.cells else b) :=
    .ite (hb.trans (sameDue_capture b _ _)) hb
  refine SameDue.trans ?_ (sameDue_relayStep _ g v)
  exact .ite ((captured (keyed sequenced _) _).trans (.of_calm .of_unit))
    (captured (keyed sequenced _) _)

theorem sameDue_endPoll (s : State) (g : Segment) (v : Visit) (o : Except VisitOutcome Reading) :
    s.SameDue (s.endPoll g v o) := by
  unfold endPoll
  refine .ite (sameDue_endVisit s g v) ?_
  split
  · exact sameDue_goodReading s g v _
  · exact (sameDue_nodeOutcome s v.slot _).trans (sameDue_endVisit _ g v)

theorem sameDue_answerRelay (s : State) (g : Segment) (v : Visit) (n : Nat)
    (o : Except VisitOutcome Bool) : s.SameDue (s.answerRelay g v n o) := by
  unfold answerRelay
  split
  · exact .refl s
  · exact .ite ((sameDue_setSweep s g _).trans
      (sameDue_mapLanes fun l => .ite l.keepsDue_disturb (.refl l))) (sameDue_setSweep s g _)

theorem sameDue_endRelay (s : State) (g : Segment) (v : Visit) (n : Nat)
    (o : Except VisitOutcome Bool) : s.SameDue (s.endRelay g v n o) :=
  .ite (sameDue_endVisit s g v) <|
    ((sameDue_answerRelay s g v n o).trans (sameDue_nodeOutcome _ v.slot _)).trans
      (sameDue_endVisit _ g v)

theorem sameDue_endMissed (s : State) (g : Segment) : s.SameDue (s.endMissed g) := by
  unfold endMissed
  split
  · exact .refl s
  · split
    · exact sameDue_endPoll s g _ _
    · exact sameDue_endRelay s g _ _ _

/-- The lanes and the nodes that a completed resolution writes (R28, R29). -/
theorem sameDue_lanesInstalled (s : State) (r : Resolution) : s.SameDue (s.lanesInstalled r) := by
  refine .of_records (fun n => ?_) fun i => ?_
  · rw [lanesInstalled, Table.get_build]
    exact Lane.keepsDue_judge (Lane.keepsDue_complete _ _ _ _ _)
  · change (s.nodes.get i).KeepsDue ((s.slotsChanged r).nodes.get i)
    rw [slotsChanged, changeSlots_node]
    split_ifs <;> exact ⟨rfl, rfl⟩

theorem sameDue_acknowledgeAll (s : State) (pairs : List (Fin 128 × Band)) :
    s.SameDue (s.acknowledgeAll pairs) := by
  unfold acknowledgeAll
  induction pairs generalizing s with
  | nil => exact .refl s
  | cons x rest ih => exact (sameDue_modifyLane x.1 (Lane.keepsDue_acknowledge _ _)).trans (ih _)

theorem sameDue_storeGroup (s : State) (n : Fin 16) (g : Group) : s.SameDue (s.storeGroup n g) := by
  have stored : s.SameDue { s with notice := { s.notice with groups := s.notice.groups.set n g } } :=
    .of_records (fun _ => .refl _) fun _ => .refl _
  exact .ite (stored.trans (sameDue_mapLanes fun l => .ite l.keepsDue_announce (.refl l))) stored

/-! ### Aisle hold, the key and the clock -/

theorem calm_startHold (s : State) : s.Calm s.startHold := .of_unit

theorem event_endHold (s : State) : s.Event s.endHold :=
  .ite (.close (.of_records (fun n => by
    rw [Table.get_map]
    exact Lane.keepsDue_judge (.refl _)) fun _ => .refl _)) (.refl s)

theorem event_toggleHold (s : State) : s.Event s.toggleHold :=
  .ite s.event_endHold s.calm_startHold.event

/-- A change of lit lanes alone, with the beacons decided again. -/
theorem calm_shortPress (s : State) : s.Calm s.shortPress where
  toSameDue := (sameDue_mapLanes (f := fun l => { l with beaconLit := false }) fun _ =>
    ⟨rfl, rfl⟩).trans (sameDue_refreshBeacons _)
  kind x := by cases x <;> simp [shortPress, kindPending, refreshBeacons]
  follow _ := refreshBeacons_follow _

theorem calm_takeKey (s : State) : s.Calm s.takeKey := by
  unfold takeKey
  simp only
  split
  · split
    · exact .of_unit
    · exact .of_unit
    · exact .of_unit
  · split
    · exact Calm.trans .of_unit (calm_shortPress _)
    · exact .of_unit
    · exact .of_unit

/-- The station clock is set, and every deadline it then has reached is taken (R150). -/
theorem event_setClock (s : State) (value : Clock) : s.Event (s.setClock value) :=
  .ite (.refl s) <| .close <| .of_records (fun n => by
    rw [Table.get_map]
    exact Lane.keepsDue_judge (Lane.keepsDue_takeDeadlines _ _)) fun _ => .refl _

end State

end Sys2Proof.Machine
end

section
/-! Requests, the starts and the take of a notice as the Notice Unit sees them. -/

namespace Sys2Proof.Machine

namespace State

variable {s t u : State}

/-! ### Requests -/

theorem event_requestWriteStation (s : State) (p : List Byte) :
    s.Event (s.requestWriteStation p).state := by
  unfold requestWriteStation
  split
  · exact .refl s
  · exact (Calm.of_unit).event

theorem event_requestNoticeOutput (s : State) (p : List Byte) :
    s.Event (s.requestNoticeOutput p).state := by
  unfold requestNoticeOutput
  split
  · exact .refl s
  · exact Calm.event {
      toSameDue := .of_records (fun _ => .refl _) fun _ => .refl _
      kind := fun _ => rfl
      follow := fun _ => refreshBeacons_follow _ }

theorem event_requestWriteCapture (s : State) (p : List Byte) :
    s.Event (s.requestWriteCapture p).state := by
  unfold requestWriteCapture
  split
  · split
    · exact (Calm.of_unit).event
    · exact .refl s
  · exact .refl s

theorem event_requestWriteMask (s : State) (p : List Byte) : s.Event (s.requestWriteMask p).state := by
  unfold requestWriteMask
  split
  · exact .refl s
  · exact .refl s
  · exact (Calm.of_unit).event

theorem event_requestWriteCalibration (s : State) (p : List Byte) :
    s.Event (s.requestWriteCalibration p).state := by
  unfold requestWriteCalibration
  split
  · exact .refl s
  · split
    · exact .refl s
    · exact (Calm.of_unit).event

theorem event_requestLoadSweepList (s : State) (p : List Byte) :
    s.Event (s.requestLoadSweepList p).state := by
  unfold requestLoadSweepList
  simp only
  split
  · exact .refl s
  · split_ifs
    · exact .refl s
    · exact .refl s
    · exact .refl s
    · exact (Calm.of_unit).event

theorem event_requestWriteLane (s : State) (p : List Byte) : s.Event (s.requestWriteLane p).state := by
  unfold requestWriteLane
  simp only
  split
  · exact .refl s
  · split_ifs
    · exact .refl s
    · split
      · exact .refl s
      · exact .close (sameDue_modifyLane _ fun l => Lane.keepsDue_judge (l.keepsDue_rewrite _ _))

theorem event_requestReadLane (s : State) (p : List Byte) : s.Event (s.requestReadLane p).state := by
  unfold requestReadLane
  split
  · exact .refl s
  · split
    · exact .refl s
    · exact .refl s

/-- Zeroing begins without a kind; only its end adds one (R13). -/
theorem calm_beginZeroing (s : State) (n : Fin 128) : s.Calm (s.modifyLane n (Lane.beginZeroing s.now)) where
  toSameDue := sameDue_modifyLane n fun _ => ⟨rfl, rfl⟩
  kind x := by
    cases x with
    | lane m =>
      simp only [kindPending, modifyLane_lanes, Table.get_modify]
      split_ifs <;> rfl
    | node i => rfl
  follow h := h.congr rfl (fun _ _ => demanded_congr rfl fun m => by
    rw [modifyLane_lanes, Table.get_modify]
    split_ifs <;> exact ⟨rfl, rfl⟩) fun _ => ⟨Iff.rfl, rfl⟩

theorem event_requestZeroLane (s : State) (p : List Byte) : s.Event (s.requestZeroLane p).state := by
  unfold requestZeroLane
  split
  · exact .refl s
  · rename_i n _
    split
    · exact .refl s
    · exact .refl s
    all_goals exact (s.calm_beginZeroing n).event

theorem event_requestAcknowledge (s : State) (p : List Byte) :
    s.Event (s.requestAcknowledge p).state := by
  unfold requestAcknowledge
  split
  · exact .refl s
  · exact .close (s.sameDue_acknowledgeAll _)

theorem event_requestWriteGroup (s : State) (p : List Byte) :
    s.Event (s.requestWriteGroup p).state := by
  unfold requestWriteGroup
  split
  · exact .refl s
  · split
    · exact .close (s.sameDue_storeGroup _ _)
    · exact .refl s

/-- READ NODE clears what it has shown, which is no kind (R132). -/
theorem event_requestReadNode (s : State) (p : List Byte) : s.Event (s.requestReadNode p).state := by
  unfold requestReadNode
  split
  · exact .refl s
  · rename_i i _
    exact Calm.event {
      toSameDue := sameDue_setNode i ⟨rfl, rfl⟩
      kind := fun x => by
        cases x with
        | lane m => rfl
        | node j =>
          simp only [kindPending, setNode_nodes, Table.get_set]
          split_ifs with hj
          · rw [hj]
          · rfl
      follow := fun h => h.congr rfl (fun _ _ => Iff.rfl) fun _ => ⟨Iff.rfl, rfl⟩ }

theorem event_requestReleaseNode (s : State) (p : List Byte) :
    s.Event (s.requestReleaseNode p).state := by
  unfold requestReleaseNode
  split
  · exact .refl s
  · exact .close (s.sameDue_releaseNode _)

theorem calm_setSweep (s : State) (g : Segment) (e : SweepEngine) : s.Calm (s.setSweep g e) :=
  .of_same (by simp) (by simp) (by simp)

theorem event_requestRelay (s : State) (tag : Byte) (p : List Byte) :
    s.Event (s.requestRelay tag p).state := by
  unfold requestRelay
  simp only
  split
  · exact .refl s
  · split
    · exact .refl s
    · split
      · exact .refl s
      · split
        · exact .refl s
        · exact (Calm.trans (s.calm_setSweep _ _) .of_unit).event

/-- An immediate request, whatever its payload, is at most one event. -/
theorem event_perform (s : State) (code : RequestCode) (tag : Byte) (p : List Byte) :
    s.Event (s.perform code tag p).state := by
  cases code with
  | identify => exact .refl s
  | readStatus => exact (Calm.of_unit).event
  | writeStation => exact s.event_requestWriteStation p
  | noticeOutput => exact s.event_requestNoticeOutput p
  | writeCapture => exact s.event_requestWriteCapture p
  | writeMask => exact s.event_requestWriteMask p
  | writeCalibration => exact s.event_requestWriteCalibration p
  | loadSweepList => exact s.event_requestLoadSweepList p
  | commit => exact (Calm.of_unit).event
  | discard => exact (Calm.of_unit).event
  | writeLane => exact s.event_requestWriteLane p
  | readLane => exact s.event_requestReadLane p
  | zeroLane => exact s.event_requestZeroLane p
  | acknowledge => exact s.event_requestAcknowledge p
  | writeGroup => exact s.event_requestWriteGroup p
  | readNode => exact s.event_requestReadNode p
  | releaseNode => exact s.event_requestReleaseNode p
  | relay => exact s.event_requestRelay tag p
  | aisleHold => exact s.calm_startHold.event
  | aisleRelease => exact s.event_endHold
  | restart => exact (Calm.of_unit).event

theorem event_answer (s : State) (code : RequestCode) (tag : Byte) (p : List Byte) :
    s.Event (s.answer code tag p).state := by
  unfold answer
  split
  · exact s.event_perform code tag p
  · exact .refl s

/-- A request that is executed is at most one event. -/
theorem event_execute (s : State) (r : Request) : s.Event (s.execute r) := by
  unfold execute
  split
  · unfold executeBroadcast
    split
    · exact .refl s
    · split
      · exact .refl s
      · exact .ite (s.event_answer _ _ _) (.refl s)
  · unfold executeUnicast
    split
    · exact (Calm.of_unit).event
    · split
      · exact (Calm.of_unit).event
      · exact .ite (Calm.of_unit).event ((s.event_answer _ _ _).beside {})

theorem calm_withIntake (s : State) (rs : List Request) :
    s.Calm { s with mgmt := { s.mgmt with intake := rs } } := .of_unit

theorem event_takeRequests_single {r : Request} (h : s.mgmt.intake = [r]) : s.Event s.takeRequests := by
  unfold takeRequests
  rw [h]
  refine .ite ?_ (.refl s)
  rw [h]
  exact (s.calm_withIntake _).before (event_execute _ r)

theorem event_takeRequests_waiting (h : s.ready = false) : s.Event s.takeRequests := by
  rw [takeRequests, takeUpTo_of_not_ready h]
  exact .refl s

/-- Where requests wait only for a reason, a delivery is at most one event: the request is executed alone or
waits (R156). -/
theorem event_deliver (h : s.RequestsConsistent) (r : Request) : s.Event (s.deliver r) := by
  obtain ⟨-, -, hwait, -⟩ := h
  refine .ite ?_ (Calm.of_unit).event
  refine (s.calm_withIntake (s.mgmt.intake ++ [r])).before ?_
  by_cases hi : s.mgmt.intake = []
  · exact event_takeRequests_single (r := r) (by simp [hi])
  · have hready : s.ready = false := by
      rcases hwait hi with he | hr
      · cases hs : s.mgmt.engine <;> simp_all [ready]
      · cases hs : s.mgmt.reply <;> simp_all [ready]
    exact event_takeRequests_waiting hready

/-! ### Chains of events -/

/-- What every command keeps: a consistent queue, and beacons that follow. -/
structure Keeps (s t : State) : Prop where
  notices : s.NoticesConsistent → t.NoticesConsistent
  beacons : s.BeaconsFollow → t.BeaconsFollow

theorem Event.keeps (h : s.Event t) : s.Keeps t := ⟨h.consistent, h.follow⟩

theorem Calm.keeps (h : s.Calm t) : s.Keeps t := h.event.keeps

theorem Keeps.refl (s : State) : s.Keeps s := ⟨id, id⟩

theorem Keeps.trans (h : s.Keeps t) (k : t.Keeps u) : s.Keeps u :=
  ⟨k.notices ∘ h.notices, k.beacons ∘ h.beacons⟩

theorem Keeps.ite {c : Prop} [Decidable c] (h : s.Keeps t) (k : s.Keeps u) :
    s.Keeps (if c then t else u) := by
  split_ifs
  · exact h
  · exact k

/-- Requests taken one after the other are one event each. -/
theorem keeps_takeUpTo (fuel : Nat) (s : State) : s.Keeps (s.takeUpTo fuel) := by
  induction fuel generalizing s with
  | zero => exact .refl s
  | succ fuel ih =>
    unfold takeUpTo
    refine .ite ?_ (.refl s)
    split
    · exact .refl s
    · exact ((s.calm_withIntake _).before (event_execute _ _)).keeps.trans (ih _)

theorem keeps_takeRequests (s : State) : s.Keeps s.takeRequests := s.keeps_takeUpTo _

theorem keeps_deliver (s : State) (r : Request) : s.Keeps (s.deliver r) :=
  .ite ((s.calm_withIntake _).keeps.trans (keeps_takeRequests _)) (Calm.of_unit).keeps

/-! ### The starts -/

/-- After a cold start the Notice Unit is as after reset. -/
theorem calm_coldStart (s : State) : State.reset.Calm s.coldStart := .of_unit

theorem keeps_coldStart (s : State) : s.Keeps s.coldStart where
  notices _ := s.calm_coldStart.event.consistent reset_noticesConsistent
  beacons _ := s.calm_coldStart.follow reset_beaconsFollow

/-- A queue rebuilt from the due subjects alone is consistent (R104). -/
theorem admitDeferred_consistent (hk : ∀ x, s.isDue x = s.kindPending x) (hq : s.notice.queue = [])
    (hd : ∀ x, s.isDue x = true ↔ x ∈ s.notice.deferred) (hr : Rising s.notice.deferred) :
    s.admitDeferred.NoticesConsistent := by
  obtain ⟨xs, h, hfull⟩ := s.admitDeferred_admitted
  have queue : s.admitDeferred.notice.queue = numbered s.notice.nextAdmission xs := by
    rw [h.queue, hq, List.nil_append]
  have queued (x : Subject) : s.admitDeferred.queued x ↔ x ∈ xs := by
    rw [State.queued, queue, exists_mem_numbered]
  have deferred (x : Subject) :
      x ∈ s.admitDeferred.notice.deferred ↔ x ∈ s.notice.deferred ∧ x ∉ xs := by
    simp [h.deferred]
  have room : s.admitDeferred.notice.queue.length ≤ 32 := by
    rcases h.room with rfl | hroom
    · simp [queue]
    · exact hroom
  refine ⟨fun x => ?_, fun x => ?_, fun x hx => ?_, ?_, ?_, fun hne => ?_, room, ?_, fun e he => ?_⟩
  · rw [h.frame.isDue, h.frame.kindPending, hk]
  · rw [h.frame.isDue, hd, queued, deferred]
    have := h.mem x
    tauto
  · rw [deferred]
    exact fun hx' => hx'.2 ((queued x).1 hx)
  · rw [queue, numbered_subjects]
    exact h.nodup
  · rw [h.deferred]
    exact List.Pairwise.filter _ hr
  · exact room.antisymm (hfull.resolve_left hne)
  · rw [queue]
    exact numbered_rising
  · rw [queue] at he
    rw [h.next]
    exact (mem_numbered_number he).2

/-- The station at a warm start before the queue is rebuilt. -/
def warmed (s : State) : State := { s with
  backbone := warmBackbone s.backbone
  mgmt := warmManagement s.mgmt
  notice := warmNotice s.notice
  lanes := s.lanes.map s.warmLane
  nodes := s.nodes.map (fun n => { n.reset with due := false })
  sweepA := s.sweepA.restart
  sweepB := s.sweepB.restart
  sequences := .const 64 none
  nextAcceptance := 0 }

theorem warmStart_eq (s : State) : s.warmStart = s.warmed.rebuildQueue.refreshBeacons := rfl

/-- Notice due follows the kinds at a warm start: a ZERO of a cancelled zeroing makes its lane due, and the
nodes lose their kinds (R18, R103). -/
theorem warmed_due (hs : s.NoticesConsistent) (x : Subject) : s.warmed.isDue x = s.warmed.kindPending x := by
  cases x with
  | lane n =>
    simp only [isDue, kindPending, warmed, Table.get_map, warmLane, Lane.settleDue_kinds]
    exact Lane.settleDue_due ((s.lanes.get n).keepsDue_warm.due.trans (hs.due_eq (.lane n)))
  | node i => simp [isDue, kindPending, warmed, Node.reset]

theorem keeps_warmStart (s : State) : s.Keeps s.warmStart where
  notices hs := by
    rw [warmStart_eq]
    have rebuilt : s.warmed.rebuildQueue.NoticesConsistent := by
      refine admitDeferred_consistent (warmed_due hs) rfl (fun x => ?_) ?_
      · cases x with
        | lane n => simp [isDue]
        | node i => simp [isDue, warmed]
      · exact List.pairwise_map.2 ((List.pairwise_lt_finRange 128).filter _)
    exact rebuilt
  beacons _ := refreshBeacons_follow _

/-! ### The take of a notice (R92) -/

/-- The kinds of the subject taken and the spacing measure restarted; the due mark, which the take clears
too, follows the kinds as at the closing of any event. -/
def kindsTaken (s : State) : Subject → State
  | .lane n => { s.modifyLane n (fun l => { l with
      kinds := .none, alertAnnounced := l.alertAnnounced || l.kinds.band }) with
      notice := { s.notice with spacing := some 0 } }
  | .node i => { s.setNode i { s.nodes.get i with statePending := false } with
      notice := { s.notice with spacing := some 0 } }

variable {x y : Subject}

theorem sameDue_kindsTaken (s : State) (x : Subject) : s.SameDue (s.kindsTaken x) := by
  cases x with
  | lane n =>
    exact (sameDue_modifyLane n (f := fun l => { l with
      kinds := .none, alertAnnounced := l.alertAnnounced || l.kinds.band }) fun _ => ⟨rfl, rfl⟩).trans
      (.of_calm .of_unit)
  | node i =>
    exact (sameDue_setNode i (k := { s.nodes.get i with statePending := false }) ⟨rfl, rfl⟩).trans
      (.of_calm .of_unit)

theorem kindsTaken_kindPending (s : State) (x y : Subject) :
    (s.kindsTaken x).kindPending y = (s.kindPending y && y != x) := by
  cases x with
  | lane n =>
    cases y with
    | lane m =>
      simp only [kindsTaken, kindPending, modifyLane_lanes, Table.get_modify]
      split_ifs with h
      · simp [h, LaneKinds.none, LaneKinds.any]
      · simp [Ne.symm h]
    | node j => simp [kindsTaken, kindPending]
  | node i =>
    cases y with
    | lane m => simp [kindsTaken, kindPending]
    | node j =>
      simp only [kindsTaken, kindPending, setNode_nodes, Table.get_set]
      split_ifs with h
      · simp [h]
      · simp [Ne.symm h]

@[simp] theorem clearKinds_notice (s : State) (x : Subject) : (s.clearKinds x).notice = s.notice := by
  cases x <;> rfl

/-- The record of the subject after the take, and the spacing measure: steps 3 and 4 of R92. -/
def noticeCleared (s : State) (x : Subject) : State :=
  { s.clearKinds x with notice := { (s.clearKinds x).notice with spacing := some 0 } }

/-- The due mark that a take clears is the one that the closing of an event clears. -/
theorem dueSettled_kindsTaken (hx : s.kindPending x = true) :
    dueSettled s (s.kindsTaken x) = s.noticeCleared x := by
  have lanes : Table.zipWith (Lane.settleDue (s.kindsTaken x).now) s.lanes (s.kindsTaken x).lanes =
      (s.noticeCleared x).lanes := by
    refine Table.ext_get fun m => ?_
    cases x with
    | lane n =>
      have hk : (s.lanes.get n).kinds.any = true := hx
      simp only [noticeCleared, kindsTaken, clearKinds, modifyLane_lanes, Table.get_zipWith,
        Table.get_modify]
      split_ifs with hm
      · subst hm
        exact Lane.settleDue_emptied hk rfl
      · exact Lane.settleDue_self _ _
    | node i => simp [noticeCleared, kindsTaken, clearKinds]
  have nodes : Table.zipWith (Node.settleDue (s.kindsTaken x).now) s.nodes (s.kindsTaken x).nodes =
      (s.noticeCleared x).nodes := by
    refine Table.ext_get fun j => ?_
    cases x with
    | lane n => simp [noticeCleared, kindsTaken, clearKinds]
    | node i =>
      have hk : (s.nodes.get i).statePending = true := hx
      simp only [noticeCleared, kindsTaken, clearKinds, setNode_nodes, Table.get_zipWith, Table.get_set]
      split_ifs with hj
      · subst hj
        exact Node.settleDue_emptied hk rfl
      · exact Node.settleDue_self _ _
  rw [dueSettled, lanes, nodes]
  cases x <;> rfl

/-- A take is an event that empties the kinds of one queued subject: it leaves, and a deferred one is admitted
in its place (R92, R89). -/
theorem takeNotice_eq (hs : s.NoticesConsistent) {e : QueueEntry} (he : s.nextEntry = some e)
    (hm : e ∈ s.notice.queue) : s.takeNotice =
      some (s.noticePayload e.subject, settleNotices s (s.kindsTaken e.subject)) := by
  have hx := hs.queued_pending hm
  have joins : joining s (s.kindsTaken e.subject) = [] := by
    simp only [joining, List.filter_eq_nil_iff, kindsTaken_kindPending]
    intro y _
    cases s.kindPending y <;> simp
  have leaves (y : Subject) : (!(leaving s (s.kindsTaken e.subject)).contains y) = (y != e.subject) := by
    have hy : y ∈ leaving s (s.kindsTaken e.subject) ↔ y = e.subject := by
      rw [mem_leaving, kindsTaken_kindPending]
      by_cases hy : y = e.subject <;> simp [hy, hx]
    rw [bne, List.contains_eq_mem, decide_eq_decide.2 hy]
    rfl
  have kept : (s.noticeCleared e.subject).without (leaving s (s.kindsTaken e.subject)) =
      { s.clearKinds e.subject with notice := { (s.clearKinds e.subject).notice with
        queue := (s.clearKinds e.subject).notice.queue.filter (fun x => x.subject != e.subject)
        spacing := some 0 } } := by
    have deferred : s.notice.deferred.filter (fun y => y != e.subject) = s.notice.deferred :=
      List.filter_eq_self.2 fun y hy => bne_iff_ne.2 fun h => hs.not_deferred hm (h ▸ hy)
    simp only [without, noticeCleared, leaves, clearKinds_notice, deferred]
  have shorter : ((s.noticeCleared e.subject).without
      (leaving s (s.kindsTaken e.subject))).notice.queue.length <
      (s.noticeCleared e.subject).notice.queue.length := by
    rw [kept]
    simp only [noticeCleared, clearKinds_notice]
    exact List.length_filter_lt_length_iff_exists.2 ⟨e, hm, by simp⟩
  rw [settleNotices_eq, joins, dueSettled_kindsTaken hx, List.foldl_nil, leaveQueue_of_shorter shorter, kept]
  simp only [takeNotice, he]

end State

end Sys2Proof.Machine
end

section
/-! Every command as the Notice Unit sees it, and from it what every step keeps of the notices (O57) and of the
beacons (O59), and what one command does to the queue (O30). -/

namespace Sys2Proof.Machine

namespace State

variable {s t u : State}

/-! ### The upstream arbiter -/

/-- The queue and the deferred set light no beacon. -/
theorem SameButQueue.follow (h : s.SameButQueue t) (hs : s.BeaconsFollow) : t.BeaconsFollow := by
  unfold SameButQueue at h
  rw [h]
  exact hs

theorem nextEntry_mem {e : QueueEntry} (h : s.nextEntry = some e) : e ∈ s.notice.queue := by
  unfold nextEntry at h
  split at h <;> exact best_mem h

/-- A take lights and darkens no lane. -/
theorem clearKinds_follow (x : Subject) (h : s.BeaconsFollow) : (s.clearKinds x).BeaconsFollow := by
  refine h.congr (by rw [clearKinds_notice]) (fun _ _ => demanded_congr (by rw [clearKinds_notice]) fun m => ?_)
    fun _ => by rw [clearKinds_notice]; exact ⟨Iff.rfl, rfl⟩
  cases x with
  | lane n =>
    simp only [clearKinds, modifyLane_lanes, Table.get_modify]
    split_ifs <;> exact ⟨rfl, rfl⟩
  | node i => exact ⟨rfl, rfl⟩

theorem keeps_takeNotice {payload : List Byte} (h : s.takeNotice = some (payload, t)) : s.Keeps t := by
  cases he : s.nextEntry with
  | none => simp [takeNotice, he] at h
  | some e =>
    refine ⟨fun hs => ?_, fun hs => ?_⟩
    · rw [takeNotice_eq hs he (nextEntry_mem he)] at h
      obtain ⟨-, rfl⟩ := Prod.mk.inj (Option.some.inj h)
      obtain ⟨_, _, settled⟩ := settleNotices_settled hs (s.sameDue_kindsTaken e.subject)
      exact settled.consistent hs
    · simp only [takeNotice, he, Option.some.injEq, Prod.mk.injEq] at h
      obtain ⟨-, rfl⟩ := h
      refine (admitDeferred_frame _).follow ?_
      exact clearKinds_follow e.subject hs

theorem calm_sendLocal (s : State) (f : Frame) : s.Calm (s.sendLocal f) := .of_unit

theorem keeps_takeReply (s : State) (r : Reply) : s.Keeps (s.takeReply r) := by
  have sent : s.Calm (({ s with mgmt := { s.mgmt with reply := none } } : State).sendLocal
      (s.ownFrame kindReply r.tag r.payload)) := .of_unit
  unfold takeReply
  simp only
  split
  · exact sent.keeps.trans (keeps_warmStart _)
  · exact sent.keeps.trans (keeps_takeRequests _)
  · exact sent.keeps.trans (keeps_takeRequests _)

theorem keeps_takeLocal (h : s.takeLocal = some t) : s.Keeps t := by
  unfold takeLocal at h
  split at h
  · cases h
  · split at h
    · cases h
      exact s.keeps_takeReply _
    · split at h
      · cases h
        exact ((s.calm_setSweep _ _).trans (calm_sendLocal _ _)).keeps
      · split at h
        · rename_i hn
          cases h
          split at hn
          · exact (keeps_takeNotice hn).trans (calm_sendLocal _ _).keeps
          · cases hn
        · obtain ⟨payload, -, rfl⟩ := Option.map_eq_some_iff.1 h
          exact (Calm.of_unit).keeps

theorem keeps_chooseUpstream (s : State) : s.Keeps s.chooseUpstream := by
  have offered {u : State} (hu : s.Keeps u) : s.Keeps (s.takeLocal.getD u) := by
    cases ht : s.takeLocal with
    | none => exact hu
    | some t => exact keeps_takeLocal ht
  have taken (f : Frame) (rest : List Frame) : s.Keeps (s.takeUp f rest) := (Calm.of_unit).keeps
  unfold chooseUpstream
  split
  · exact offered (.refl s)
  · exact .ite (taken _ _) (offered (taken _ _))

/-! ### Frames at BU -/

/-- At most one event, or the delivery of a request with something beside it. -/
def Acts (s t : State) : Prop := s.Event t ∨ ∃ r, (s.deliver r).Beside t

theorem Acts.keeps (h : s.Acts t) : s.Keeps t := by
  rcases h with h | ⟨r, h⟩
  · exact h.keeps
  · exact (s.keeps_deliver r).trans h.calm.keeps

/-- Where requests wait only for a reason, a delivery too is at most one event. -/
theorem Acts.event (h : s.Acts t) (hr : s.RequestsConsistent) : s.Event t := by
  rcases h with h | ⟨r, h⟩
  · exact h
  · exact (event_deliver hr r).beside h

theorem Acts.ite {c : Prop} [Decidable c] (h : s.Acts t) (k : s.Acts u) :
    s.Acts (if c then t else u) := by
  split_ifs
  · exact h
  · exact k

theorem Calm.acts (h : s.Calm t) : s.Acts t := .inl h.event

theorem acts_deliver (s : State) (r : Request) : s.Acts (s.deliver r) := .inr ⟨r, {}⟩

theorem beside_forwardDown (s : State) (f : Frame) : s.Beside (s.forwardDown f) := .ite {} {}

theorem beside_buFault (s : State) : s.Beside s.buFault := {}

theorem acts_routeUnassigned (s : State) (f : Frame) : s.Acts (s.routeUnassigned f) := by
  have addressed (a : Option (BitVec 16)) (f : Frame) : s.Acts
      (({ s with backbone := { s.backbone with address := a } } : State).forwardDown f) :=
    .inl (Event.beside (Calm.of_unit).event (beside_forwardDown _ f))
  exact .ite (.ite (addressed _ _) (s.beside_forwardDown f).calm.acts) (s.beside_forwardDown f).calm.acts

theorem acts_routeOwn (s : State) (f : Frame) : s.Acts (s.routeOwn f) :=
  .ite (s.acts_deliver _) <|
    .ite (.ite (.inl (s.event_setClock _)) s.beside_buFault.calm.acts) s.beside_buFault.calm.acts

theorem acts_routeAll (s : State) (a : BitVec 16) (f : Frame) : s.Acts (s.routeAll a f) := by
  have fault : s.Event s.buFault := s.beside_buFault.event
  exact .ite (.inr ⟨_, beside_forwardDown _ f⟩) <|
    .ite (.inl ((Event.ite (s.event_setClock _) fault).beside (beside_forwardDown _ f))) <|
    .ite (.ite (s.beside_forwardDown _).calm.acts (.inl (fault.beside (beside_forwardDown _ f))))
      (s.beside_forwardDown f).calm.acts

theorem acts_routeDown (s : State) (f : Frame) : s.Acts (s.routeDown f) := by
  unfold routeDown
  split
  · exact s.acts_routeUnassigned f
  · exact .ite (s.acts_routeAll _ f) (.ite (s.acts_routeOwn f) (s.beside_forwardDown f).calm.acts)

theorem acts_submit (s : State) (r : Request) : s.Acts (s.submit r) :=
  .ite (s.acts_deliver r) (Calm.refl s).acts

/-! ### The commands -/

/-- What a command answers is at most one event away, if anything. -/
def AnswersEvent (s : State) (o : Next) : Prop := ∀ t, o = .next t → s.Event t

theorem Event.answers (h : s.Event t) : s.AnswersEvent (.next t) := by
  intro u hu
  cases hu
  exact h

theorem Calm.answers (h : s.Calm t) : s.AnswersEvent (.next t) := h.event.answers

theorem answers_refl (s : State) : s.AnswersEvent (.next s) := (Event.refl s).answers

end State

open State

variable (s : State) (g : Segment)

theorem execResolutionCompletes_event : s.AnswersEvent (execResolutionCompletes s) := by
  unfold execResolutionCompletes
  split
  · rename_i r _
    exact ((Event.close (s.sameDue_lanesInstalled r)).beside {}).answers
  · exact s.answers_refl
  · exact s.answers_refl

/-- Time passes, and then a change at one lane is one event. -/
theorem answers_modifyLane (d : Nat) (n : Fin 128) {f : Lane → Lane} (hf : ∀ l : Lane, l.KeepsDue (f l)) :
    s.AnswersEvent (.next ((s.elapse d).close ((s.elapse d).modifyLane n f))) :=
  ((s.calm_elapse d).before (.close (sameDue_modifyLane n hf))).answers

theorem execZeroingDeadlineReached_event (n : Fin 128) :
    s.AnswersEvent (execZeroingDeadlineReached n s) := by
  unfold execZeroingDeadlineReached
  split
  · exact s.answers_refl
  · exact answers_modifyLane s _ n fun _ => ⟨rfl, rfl⟩

theorem execReplenishDeadlineReached_event (n : Fin 128) :
    s.AnswersEvent (execReplenishDeadlineReached n s) := by
  unfold execReplenishDeadlineReached
  split
  · exact s.answers_refl
  · exact answers_modifyLane s _ n fun _ => Lane.keepsDue_judge ⟨rfl, rfl⟩

theorem execHoldDeadlineReached_event : s.AnswersEvent (execHoldDeadlineReached s) := by
  unfold execHoldDeadlineReached
  split
  · exact s.answers_refl
  · exact ((s.calm_elapse _).before (event_endHold _)).answers

theorem execNoticeSpacingElapsed_event : s.AnswersEvent (execNoticeSpacingElapsed s) := by
  unfold execNoticeSpacingElapsed
  split
  · exact s.answers_refl
  · exact (s.calm_elapse _).answers

/-- A flashing output that changes level goes on flashing. -/
theorem calm_toggled {b : Fin 4} {high level : Bool} {e k : Nat}
    (h : s.notice.beacons.get b = .flashing high e) :
    s.Calm { s with notice := { s.notice with
      beacons := s.notice.beacons.set b (.flashing level k) } } where
  toSameDue := .of_records (fun _ => .refl _) fun _ => .refl _
  kind _ := rfl
  follow hs := hs.congr rfl (fun _ _ => Iff.rfl) fun c => by
    simp only [Table.get_set]
    split_ifs with hc
    · simp [← hc, h, Beacon.isFlashing]
    · exact ⟨Iff.rfl, rfl⟩

theorem execBeaconPhaseToggle_event (b : Fin 4) : s.AnswersEvent (execBeaconPhaseToggle b s) := by
  unfold execBeaconPhaseToggle
  split
  · rename_i high e he
    have hb : (s.elapse (Config.beaconPhase - e)).notice.beacons.get b =
        .flashing high (e + (Config.beaconPhase - e)) := by
      refine (Table.get_map _ _ _).trans ?_
      rw [he]
      rfl
    exact ((s.calm_elapse _).trans (calm_toggled _ hb)).answers
  · exact s.answers_refl
  · exact s.answers_refl

theorem execAkeyLevelChange_event (low : Bool) : s.AnswersEvent (execAkeyLevelChange low s) := by
  unfold execAkeyLevelChange
  split
  · exact s.answers_refl
  · exact (Calm.of_unit).answers

theorem execDebounceExpiry_event : s.AnswersEvent (execDebounceExpiry s) := by
  unfold execDebounceExpiry
  split
  · exact s.answers_refl
  · exact ((s.calm_elapse _).trans (calm_takeKey _)).answers

theorem execHoldTimerExpiry_event : s.AnswersEvent (execHoldTimerExpiry s) := by
  unfold execHoldTimerExpiry
  split
  · rename_i e _
    have pressed : (s.elapse (Config.holdTime - e)).Calm
        { s.elapse (Config.holdTime - e) with notice :=
          { (s.elapse (Config.holdTime - e)).notice with key := .long } } := .of_unit
    exact (((s.calm_elapse _).trans pressed).before (event_toggleHold _)).answers
  · exact s.answers_refl
  · exact s.answers_refl

theorem execSweepTimerExpiry_event : s.AnswersEvent (execSweepTimerExpiry g s) := by
  unfold execSweepTimerExpiry
  simp only
  split
  · split
    · exact s.answers_refl
    · exact (s.calm_setSweep g _).answers
  · exact ((s.calm_elapse _).trans (calm_setSweep _ g _)).answers

theorem execShelfTransmissionEnd_event : s.AnswersEvent (execShelfTransmissionEnd g s) := by
  unfold execShelfTransmissionEnd
  split
  · exact s.answers_refl
  · split
    · exact (s.calm_setSweep g _).answers
    all_goals exact s.answers_refl

theorem execReplyWindowExpiry_event : s.AnswersEvent (execReplyWindowExpiry g s) := by
  unfold execReplyWindowExpiry
  split
  · exact s.answers_refl
  · split
    · exact ((s.calm_elapse _).before (.close (sameDue_endMissed _ g))).answers
    all_goals exact s.answers_refl

theorem execReadingReceived_event (bytes : List Byte) :
    s.AnswersEvent (execReadingReceived g bytes s) := by
  unfold execReadingReceived
  split
  · exact s.answers_refl
  · split
    · exact (Event.close (s.sameDue_endPoll g _ _)).answers
    · exact s.answers_refl

theorem execRelayAnswerReceived_event (bytes : List Byte) :
    s.AnswersEvent (execRelayAnswerReceived g bytes s) := by
  unfold execRelayAnswerReceived
  split
  · exact s.answers_refl
  · split
    · exact s.answers_refl
    · split
      · exact (Event.close (s.sameDue_endRelay g _ _ _)).answers
      · exact s.answers_refl

theorem execShelfFrameDiscarded_event : s.AnswersEvent (execShelfFrameDiscarded g s) := by
  unfold execShelfFrameDiscarded
  simp only
  split
  · exact (s.calm_setSweep g _).answers
  · exact s.answers_refl

theorem execShelfReceptionBegins_event : s.AnswersEvent (execShelfReceptionBegins g s) := by
  unfold execShelfReceptionBegins
  simp only
  split
  · exact (s.calm_setSweep g _).answers
  · split
    · split
      · exact s.answers_refl
      · exact (s.calm_setSweep g _).answers
    · exact s.answers_refl
    all_goals exact (s.calm_setSweep g _).answers

variable {s} {t : State}

/-- Every command but a cold start and the arbiter's choice is at most one event, or delivers a request. -/
theorem exec_acts (c : Instr) (hc : c ≠ .coldStart) (hu : c ≠ .upstreamChoice)
    (h : exec c s = .next t) : s.Acts t := by
  cases c with
  | coldStart => exact absurd rfl hc
  | upstreamChoice => exact absurd rfl hu
  | resolutionCompletes => exact .inl (execResolutionCompletes_event s t h)
  | buFrameReceived bytes =>
    cases h
    split
    · exact s.acts_routeDown _
    · exact s.beside_buFault.calm.acts
  | bdFrameReceived bytes =>
    cases h
    split
    · exact (Beside.ite {} {}).calm.acts
    · exact (Calm.of_unit).acts
  | bdTransmit =>
    cases h
    split
    · exact (Calm.refl s).acts
    · exact (Calm.of_unit).acts
  | zeroingDeadlineReached n => exact .inl (execZeroingDeadlineReached_event s n t h)
  | replenishDeadlineReached n => exact .inl (execReplenishDeadlineReached_event s n t h)
  | holdDeadlineReached => exact .inl (execHoldDeadlineReached_event s t h)
  | noticeSpacingElapsed => exact .inl (execNoticeSpacingElapsed_event s t h)
  | beaconPhaseToggle b => exact .inl (execBeaconPhaseToggle_event s b t h)
  | akeyLevelChange low => exact .inl (execAkeyLevelChange_event s low t h)
  | debounceExpiry => exact .inl (execDebounceExpiry_event s t h)
  | holdTimerExpiry => exact .inl (execHoldTimerExpiry_event s t h)
  | sweepTimerExpiry g => exact .inl (execSweepTimerExpiry_event s g t h)
  | shelfTransmissionEnd g => exact .inl (execShelfTransmissionEnd_event s g t h)
  | replyWindowExpiry g => exact .inl (execReplyWindowExpiry_event s g t h)
  | readingReceived g bytes => exact .inl (execReadingReceived_event s g bytes t h)
  | relayAnswerReceived g bytes => exact .inl (execRelayAnswerReceived_event s g bytes t h)
  | shelfFrameDiscarded g => exact .inl (execShelfFrameDiscarded_event s g t h)
  | shelfReceptionBegins g => exact .inl (execShelfReceptionBegins_event s g t h)
  | _ => cases h; exact s.acts_submit _

/-- Every command keeps the queue consistent and the beacons following. -/
theorem exec_keeps (c : Instr) (h : exec c s = .next t) : s.Keeps t := by
  by_cases hc : c = .coldStart
  · subst hc
    cases h
    exact s.keeps_coldStart
  · by_cases hu : c = .upstreamChoice
    · subst hu
      cases h
      exact s.keeps_chooseUpstream
    · exact (exec_acts c hc hu h).keeps

/-- So does every step, with the passing of time. -/
theorem step_keeps (h : step s = .next t) : s.Keeps t := by
  unfold step at h
  split at h
  · unfold idle at h
    split at h
    · exact exec_keeps _ h
    · cases h
      exact (s.calm_elapse 1).keeps
  · rename_i c rest _
    have dequeued : s.Calm { s with pending := rest } := .of_unit
    exact dequeued.keeps.trans (exec_keeps c h)

/-- Settles O57: every command is a chain of events, each closed over a consistent queue. -/
theorem stepKeepsNoticesConsistent : Obligations.StepKeepsNoticesConsistent :=
  fun _ _ hs h => (step_keeps h).notices hs

/-- Settles O59: every event ends with the beacons decided again, and what is none leaves them. -/
theorem stepKeepsBeaconsFollowing : Obligations.StepKeepsBeaconsFollowing :=
  fun _ _ hs h => (step_keeps h).beacons hs

end Sys2Proof.Machine
end

section
/-! What one command does to the notice queue (O30). -/

namespace Sys2Proof.Machine

open State

/-- How notice due of one record follows its kinds (R85), for a lane. -/
theorem Lane.settleDue_record (now : Clock) (b l : Lane) : Lane.settleDue now b l = { l with
    due := if b.kinds.any = l.kinds.any then l.due else l.kinds.any
    dueSince := if b.kinds.any = false ∧ l.kinds.any = true then now else l.dueSince } := by
  unfold Lane.settleDue
  cases b.kinds.any <;> cases l.kinds.any <;> rfl

theorem Node.settleDue_record (now : Clock) (b n : Node) : Node.settleDue now b n = { n with
    due := if b.statePending = n.statePending then n.due else n.statePending
    dueSince := if b.statePending = false ∧ n.statePending = true then now else n.dueSince } := by
  unfold Node.settleDue
  obtain ⟨⟩ := n
  cases b.statePending <;> split_ifs <;> simp_all

namespace State

variable {s t : State} {admitted joined : List Subject}

/-- Over comparable due times the admitted stand in the queue order, before all that stay deferred. -/
theorem Settled.admitted_before (h : s.Settled t admitted joined) (hs : s.NoticesConsistent)
    (hd : t.DueComparable s.notice.deferred) : admitted.Pairwise t.AdmittedBefore
    ∧ ∀ x ∈ admitted, ∀ y ∈ s.notice.deferred, y ∈ t.notice.deferred → t.AdmittedBefore x y := by
  obtain ⟨pairs, others⟩ := h.admitted_ordered t.Foremost hd.decides
  refine ⟨pairs.imp₂ (fun _ _ hf hne => hf.resolve_left hne) h.admitted_nodup, fun x hx y hy hy' =>
    (others x hx y hy hy').resolve_left ?_⟩
  rintro rfl
  rcases (h.deferred x).1 hy' with ⟨-, -, hn⟩ | ⟨hk, -⟩
  · exact hn hx
  · exact hs.not_pending hk hy

/-- Exactly the subjects with a kind that the queue does not hold are deferred. -/
theorem Settled.mem_deferred_iff (h : s.Settled t admitted joined) (hs : s.NoticesConsistent) (x : Subject) :
    x ∈ t.notice.deferred ↔ t.kindPending x = true ∧ ∀ e ∈ t.notice.queue, e.subject ≠ x := by
  have hq : (∀ e ∈ t.notice.queue, e.subject ≠ x) ↔ ¬ t.queued x := by simp [State.queued]
  have apart := h.apart hs x
  rw [hq, h.pending_iff hs]
  tauto

end State

/-- Settles O30: a command but a cold start and the arbiter's choice is one closed event (`exec_acts`). -/
theorem kindsMakeSubjectsDue : Obligations.KindsMakeSubjectsDue := by
  refine ⟨Lane.settleDue_record, Node.settleDue_record, ?_⟩
  intro c s t hs hr hc hu ht
  obtain ⟨admitted, joined, h⟩ := ((exec_acts c hc hu ht).event hr).settled hs
  have joined_mem {e : QueueEntry}
      (he : e ∈ numbered (s.notice.nextAdmission + admitted.length) joined) : e.subject ∈ joined :=
    mem_numbered_subject he
  refine ⟨h.due, fun x hx => (h.since x).trans (if_pos hx), fun x hx => (h.since x).trans (if_neg hx),
    numbered s.notice.nextAdmission admitted,
    numbered (s.notice.nextAdmission + admitted.length) joined, ?_, ?_, ?_, ?_, fun hd => ?_, ?_, ?_, h.full,
    ?_, ?_, h.mem_deferred_iff hs⟩
  · rw [List.append_assoc, ← numbered_append]
    exact h.queue
  · rw [← numbered_append, numbered_numbers]
    simp
  · simp [h.next, Nat.add_assoc]
  · exact fun e he => (h.admitted_mem _ (mem_numbered_subject he)).1
  · obtain ⟨pairs, others⟩ := h.admitted_before hs hd
    exact ⟨pairwise_numbered.2 pairs, fun e he => others _ (mem_numbered_subject he)⟩
  · exact fun e he => h.joined_starts _ (joined_mem he)
  · intro hne
    exact h.joined_last fun hn => hne (by simp [hn, numbered])
  · exact pairwise_numbered.2 h.joined_rising
  · exact fun e he x hx hk => h.joined_first _ (joined_mem he) x hx hk.1

end Sys2Proof.Machine
end

section
/-! The take of a notice: the entry chosen (R90), its record cleared (R92), and the deferred subject admitted in
its place (R89) (O38). -/

namespace Sys2Proof.Machine

namespace State

variable {s t : State} {x y : Subject} {e : QueueEntry} {payload : List Byte}

/-! ### The arbiter takes a notice -/

theorem NoticeOffers.offersNotice (h : s.NoticeOffers) : s.offersNotice = true := by
  obtain ⟨hon, hqueue, haddress, hspacing⟩ := h
  have elapsed : s.spacingElapsed = true := by
    unfold spacingElapsed
    split
    · rfl
    · exact decide_eq_true (hspacing _ ‹_›)
  simp [State.offersNotice, hon, hqueue, haddress, elapsed]

theorem NoEndedRelay.endedRelay (h : s.NoEndedRelay) : s.endedRelay = none := by
  have open_only {rs : List Relay} (hrs : ∀ r ∈ rs, r.outcome = none) :
      rs.filter (fun r => !r.isOpen) = [] :=
    List.filter_eq_nil_iff.2 fun r hr => by simp [Relay.isOpen, hrs r hr]
  unfold State.endedRelay
  rw [open_only fun r hr => h r (List.mem_append_left _ hr),
    open_only fun r hr => h r (List.mem_append_right _ hr)]
  rfl

theorem chooseUpstream_of_localTurn (h : s.LocalTurn) (ht : s.takeLocal = some t) :
    s.chooseUpstream = t := by
  obtain ⟨-, hturn⟩ := h
  unfold chooseUpstream
  split
  · rw [ht, Option.getD_some]
  · rename_i hfifo
    have hburst : ¬ s.backbone.streak < s.mgmt.settings.burst := by
      rcases hturn with hempty | hburst
      · rw [hempty] at hfifo
        cases hfifo
      · exact Nat.not_lt.2 hburst
    rw [if_neg hburst, ht, Option.getD_some]

theorem takeLocal_notice (hreply : s.mgmt.reply = none) (hrelay : s.NoEndedRelay) (hn : s.NoticeOffers)
    (h : s.takeNotice = some (payload, t)) :
    s.takeLocal = some (t.sendLocal (s.ownFrame kindNotice 0 payload)) := by
  obtain ⟨-, -, haddress, -⟩ := id hn
  simp [takeLocal, Option.isSome_iff_ne_none.1 haddress, hreply, hrelay.endedRelay, hn.offersNotice, h]

/-! ### The entry chosen (R90) -/

theorem exists_nextEntry (h : s.notice.queue ≠ []) : ∃ e, s.nextEntry = some e := by
  unfold nextEntry
  split <;> exact best_isSome h

theorem nextEntry_arrival (ho : s.mgmt.settings.queueOrder = .arrival) (h : s.nextEntry = some e) :
    ∀ f ∈ s.notice.queue, e.number ≤ f.number := by
  simp only [nextEntry, ho] at h
  refine best_first (R := fun a b : QueueEntry => a.number ≤ b.number) ?_ h
  exact {
    refl := fun _ _ => Nat.le_refl _
    trans := fun _ _ _ _ _ _ => Nat.le_trans
    yes := fun _ _ _ _ h => (of_decide_eq_true h).le
    no := fun _ _ _ _ h => Nat.le_of_not_lt (of_decide_eq_false h) }

/-- In PRIORITY order the entry chosen stands first in whatever order `State.ahead` decides. -/
theorem nextEntry_first {R : Subject → Subject → Prop} (ho : s.mgmt.settings.queueOrder = .priority)
    (hR : Decides s.ahead R (s.notice.queue.map QueueEntry.subject)) (h : s.nextEntry = some e) :
    ∀ f ∈ s.notice.queue, R e.subject f.subject := by
  simp only [nextEntry, ho] at h
  exact best_first hR.comap h

theorem nextEntry_foremost (ho : s.mgmt.settings.queueOrder = .priority)
    (hd : s.DueComparable (s.notice.queue.map QueueEntry.subject)) (h : s.nextEntry = some e) :
    ∀ f ∈ s.notice.queue, s.Foremost e.subject f.subject := by
  have admits : s.admits = s.ahead := by
    funext a b
    simp only [State.admits, ho]
  exact nextEntry_first ho (admits ▸ hd.decides) h

/-- Among those of one priority the foremost is due earliest, and first in subject order where due times
agree. -/
theorem Foremost.due (h : s.Foremost x y) (ho : s.mgmt.settings.queueOrder = .priority)
    (hp : s.priority y = s.priority x) : 0 ≤ (s.dueSince y - s.dueSince x).toInt
      ∧ (s.dueSince y = s.dueSince x → x.number ≤ y.number) := by
  rcases h with rfl | h
  · simp
  rcases (admittedBefore_priority ho).1 h with hlt | ⟨-, hlater | ⟨hsame, hnum⟩⟩
  · omega
  · refine ⟨hlater.le, fun hsame => ?_⟩
    simp [hsame] at hlater
  · simp [hsame, hnum.le]

/-! ### What a take leaves -/

/-- The notice of a queued subject has been taken: its record is cleared, and the event is closed with no
subject made due. -/
structure Taken (s t : State) (x : Subject) : Prop where
  consistent : s.NoticesConsistent
  queued : s.queued x
  frame : (s.noticeCleared x).SameButQueue t
  kind : ∀ y, t.kindPending y = (s.kindPending y && y != x)
  settled : ∃ admitted, s.Settled t admitted []

theorem takeNotice_taken (hs : s.NoticesConsistent) (he : s.nextEntry = some e) :
    ∃ t, s.takeNotice = some (s.noticePayload e.subject, t) ∧ s.Taken t e.subject := by
  have hm := nextEntry_mem he
  have hx := hs.queued_pending hm
  have frame := settleNotices_frame s (s.kindsTaken e.subject)
  have kind (y : Subject) : (settleNotices s (s.kindsTaken e.subject)).kindPending y =
      (s.kindPending y && y != e.subject) := by
    rw [frame.kindPending, dueSettled_kindPending, kindsTaken_kindPending]
  obtain ⟨admitted, joined, settled⟩ := settleNotices_settled hs (s.sameDue_kindsTaken e.subject)
  have none_joined : joined = [] := List.eq_nil_iff_forall_not_mem.2 fun y hy => by
    obtain ⟨hbefore, hafter⟩ := settled.joined_starts y hy
    simp [kind, hbefore] at hafter
  refine ⟨_, takeNotice_eq hs he hm, hs, ⟨e, hm, rfl⟩, ?_, kind, admitted, none_joined ▸ settled⟩
  rwa [dueSettled_kindsTaken hx] at frame

namespace Taken

variable (h : s.Taken t x)
include h

theorem dueSince (y : Subject) : t.dueSince y = s.dueSince y := by
  obtain ⟨admitted, settled⟩ := h.settled
  refine (settled.since y).trans (if_neg ?_)
  rw [h.kind]
  rintro ⟨hbefore, hafter⟩
  simp [hbefore] at hafter

theorem priority (y : Subject) : t.priority y = s.priority y := by
  rw [h.frame.priority]
  cases x with
  | node i => cases y <;> rfl
  | lane n =>
    cases y with
    | node j => rfl
    | lane m =>
      simp only [noticeCleared, clearKinds, State.priority, modifyLane_lanes, Table.get_modify]
      split_ifs <;> rfl

/-- A take writes only one record, the queues of the Notice Unit and the spacing. -/
theorem unchanged : t.pending = s.pending ∧ t.mgmt = s.mgmt ∧ t.staged = s.staged ∧ t.active = s.active
    ∧ t.sweepA = s.sweepA ∧ t.sweepB = s.sweepB ∧ t.sequences = s.sequences
    ∧ t.nextAcceptance = s.nextAcceptance ∧ t.backbone = s.backbone
    ∧ t.notice = { s.notice with
        queue := t.notice.queue, deferred := t.notice.deferred
        nextAdmission := t.notice.nextAdmission, spacing := some 0 } := by
  have frame := h.frame
  unfold SameButQueue at frame
  rw [frame]
  cases x <;> exact ⟨rfl, rfl, rfl, rfl, rfl, rfl, rfl, rfl, rfl, rfl⟩

theorem mgmt : t.mgmt = s.mgmt := by
  obtain ⟨-, hm, -⟩ := h.unchanged
  exact hm

theorem admits : t.admits = s.admits := by
  funext a b
  simp only [State.admits, ahead, dueBefore, h.mgmt, h.priority, h.dueSince]

/-- The entries that stay are those of the other subjects. -/
theorem kept : s.notice.queue.filter (fun e => t.kindPending e.subject) =
    s.notice.queue.filter (fun e => e.subject != x) :=
  List.filter_congr fun e he => by rw [h.kind, h.consistent.queued_pending he, Bool.true_and]

theorem kept_length : (s.notice.queue.filter (fun e => e.subject != x)).length + 1 =
    s.notice.queue.length := by
  obtain ⟨-, -, -, hnodup, -⟩ := h.consistent
  have hx : x ∈ s.notice.queue.map QueueEntry.subject := List.mem_map.2 h.queued
  have hlen := List.length_erase_add_one hx
  rw [hnodup.erase_eq_filter, List.filter_map, List.length_map, List.length_map] at hlen
  exact hlen

theorem mem_deferred {admitted : List Subject} (settled : s.Settled t admitted []) :
    y ∈ t.notice.deferred ↔ y ∈ s.notice.deferred ∧ y ∉ admitted := by
  have not_x (hy : y ∈ s.notice.deferred) : y ≠ x := by
    obtain ⟨e, he, rfl⟩ := h.queued
    rintro rfl
    exact h.consistent.not_deferred he hy
  rw [settled.deferred, h.kind]
  constructor
  · rintro (⟨hy, -, hn⟩ | ⟨hk, hk', -⟩)
    · exact ⟨hy, hn⟩
    · simp [hk] at hk'
  · rintro ⟨hy, hn⟩
    exact .inl ⟨hy, by simp [h.consistent.deferred_pending hy, not_x hy], hn⟩

/-- With no subject deferred, the queue only loses the entry taken. -/
theorem of_none_deferred (hd : s.notice.deferred = []) :
    t.notice.queue = s.notice.queue.filter (fun e => e.subject != x)
      ∧ t.notice.deferred = [] ∧ t.notice.nextAdmission = s.notice.nextAdmission := by
  obtain ⟨admitted, settled⟩ := h.settled
  have none_admitted : admitted = [] := List.eq_nil_iff_forall_not_mem.2 fun y hy => by
    have := (settled.admitted_mem y hy).1
    simp [hd] at this
  subst none_admitted
  refine ⟨?_, List.eq_nil_iff_forall_not_mem.2 fun y hy => ?_, settled.next⟩
  · rw [settled.queue, h.kept]
    exact List.append_nil _
  · have := ((h.mem_deferred settled).1 hy).1
    simp [hd] at this

/-- Behind a full queue exactly one deferred subject is admitted. -/
theorem admitted_one {admitted : List Subject} (settled : s.Settled t admitted [])
    (hd : s.notice.deferred ≠ []) : admitted.length = 1 := by
  have hfull := h.consistent.full hd
  have hkept := h.kept_length
  have hlen := congrArg List.length settled.queue
  rw [h.kept, List.length_append, numbered_length, List.append_nil] at hlen
  have hroom := settled.room
  have hpos : admitted ≠ [] := by
    rintro rfl
    obtain ⟨y, hy⟩ := List.exists_mem_of_ne_nil _ hd
    have hfull' := settled.full (List.ne_nil_of_mem ((h.mem_deferred settled).2 ⟨hy, by simp⟩))
    rw [List.length_nil] at hlen
    omega
  have := List.length_pos_of_ne_nil hpos
  omega

/-- The subject admitted is first in whatever order the choice decides. -/
theorem of_some_deferred (hd : s.notice.deferred ≠ []) : ∃ y ∈ s.notice.deferred,
    t.notice.queue =
        s.notice.queue.filter (fun e => e.subject != x) ++ [⟨y, s.notice.nextAdmission⟩]
      ∧ t.notice.deferred = s.notice.deferred.filter (fun z => z != y)
      ∧ t.notice.nextAdmission = s.notice.nextAdmission + 1
      ∧ ∀ R, Decides s.admits R s.notice.deferred → ∀ z ∈ s.notice.deferred, z ≠ y → R y z := by
  obtain ⟨admitted, settled⟩ := h.settled
  obtain ⟨y, rfl⟩ := List.length_eq_one_iff.1 (h.admitted_one settled hd)
  have others {z : Subject} : z ∈ t.notice.deferred ↔ z ∈ s.notice.deferred ∧ z ≠ y := by
    rw [h.mem_deferred settled, List.mem_singleton]
  refine ⟨y, (settled.admitted_mem y (by simp)).1, ?_, ?_, settled.next, fun R hR z hz hne => ?_⟩
  · rw [settled.queue, h.kept]
    rfl
  · have : Std.Irrefl fun a b : Subject => a.number < b.number := ⟨fun a => Nat.lt_irrefl _⟩
    exact settled.rising.eq_of_mem_iff (h.consistent.rising.filter _) fun z => by
      simp [others]
  · obtain ⟨-, first⟩ := settled.admitted_ordered R (h.admits ▸ hR)
    exact first y (by simp) z hz (others.2 ⟨hz, hne⟩)

theorem sendLocal_backbone {a : BitVec 16} (ha : s.backbone.address = some a) (p : List Byte) :
    (t.sendLocal (s.ownFrame kindNotice 0 p)).backbone =
      { s.backbone with streak := 0, buTx := some ⟨0x53, 0, a, 0, p⟩ } := by
  obtain ⟨-, -, -, -, -, -, -, -, hb, -⟩ := h.unchanged
  simp only [sendLocal, ownFrame, hb, ha]
  rfl

end Taken

end State

open State

/-- Settles O38: the arbiter's turn is a take of the entry the queue order chooses. -/
theorem takenNoticeIsSent : Obligations.TakenNoticeIsSent := by
  intro s a hturn ha hreply hrelay hoffers hs
  obtain ⟨-, hqueue, -⟩ := id hoffers
  obtain ⟨e, he⟩ := exists_nextEntry hqueue
  obtain ⟨t, htake, taken⟩ := takeNotice_taken hs he
  have hexec : exec .upstreamChoice s =
      .next (t.sendLocal (s.ownFrame kindNotice 0 (s.noticePayload e.subject))) :=
    congrArg Host.Outcome.next
      (chooseUpstream_of_localTurn hturn (takeLocal_notice hreply hrelay hoffers htake))
  have backbone := taken.sendLocal_backbone ha (s.noticePayload e.subject)
  obtain ⟨pending, mgmt, staged, active, sweepA, sweepB, sequences, acceptance, -, notice⟩ :=
    taken.unchanged
  obtain ⟨lanes, nodes, -⟩ := taken.frame.same
  refine ⟨_, e, hexec, nextEntry_mem he, fun ho => nextEntry_arrival ho he,
    fun ho => nextEntry_first ho (s.ahead_decides_priority _) he, fun ho hbase f hf hp => ?_,
    pending, mgmt, staged, active, sweepA, sweepB, sequences, acceptance, notice, taken.of_none_deferred,
    fun hd => ?_, fun n hn => ?_, fun i hi => ?_⟩
  · obtain ⟨base, hbase⟩ := hbase
    have comparable : s.DueComparable (s.notice.queue.map QueueEntry.subject) :=
      ⟨base, List.forall_mem_map.2 hbase⟩
    exact (nextEntry_foremost ho comparable he f hf).due ho hp
  · obtain ⟨y, hy, queue, deferred, next, first⟩ := taken.of_some_deferred hd
    refine ⟨y, hy, queue, deferred, next, fun ho z hz => ?_, fun hcomp z hz hne =>
      (first _ hcomp.decides z hz hne).resolve_left hne.symm⟩
    by_cases hzy : z = y
    · rw [hzy]
    · exact first _ (admits_decides_priority ho _) z hz hzy
  · rw [hn] at backbone lanes nodes ⊢
    exact ⟨nodes, lanes, backbone⟩
  · rw [hi] at backbone lanes nodes ⊢
    exact ⟨lanes, nodes, backbone⟩

end Sys2Proof.Machine
end

section
/-! The timers of the Notice Unit: spacing and beacon phase (O41), the aisle key (O42) and its long press (O43). -/

namespace Sys2Proof.Machine

namespace State

variable {s : State}

/-! ### The end of aisle hold (R73, R101) -/

theorem endHold_sameButLanes (h : s.notice.holdDeadline.isSome = true) :
    ({ s with notice := { s.notice with holdDeadline := none } } : State).SameButLanes s.endHold := by
  rw [endHold_of_holding h]
  exact close_withLanes (before := s)
    (after := { s with notice := { s.notice with holdDeadline := none } }) rfl _

theorem endHold_lane (h : s.notice.holdDeadline.isSome = true) (n : Fin 128) :
    s.endHold.lanes.get n = Lane.settleDue s.backbone.clock (s.lanes.get n)
      ((s.lanes.get n).holdEnded (s.notice.groups.get (s.lanes.get n).config.group) s.backbone.clock) := by
  rw [endHold_of_holding h, close_lane, Table.get_map, Lane.judge_holdEnded]
  rfl

theorem endHold_of_off (h : s.notice.holdDeadline = none) : s.endHold = s := by
  simp [endHold, holding, h]

theorem toggleHold_of_off (h : s.notice.holdDeadline = none) : s.toggleHold = s.startHold := by
  simp [toggleHold, holding, h]

theorem toggleHold_of_on (h : s.notice.holdDeadline.isSome = true) : s.toggleHold = s.endHold :=
  if_pos h

/-! ### The debounced key (R98, R99) -/

theorem takeKey_press (hl : s.notice.akeyLow = true) (hk : s.notice.key = .idle) : s.takeKey =
    { s with notice := { s.notice with debounce := none, key := .pressed 0, keyFlag := true } } := by
  simp [takeKey, hl, hk]

theorem takeKey_release_long (hl : s.notice.akeyLow = false) (hk : s.notice.key = .long) :
    s.takeKey = { s with notice := { s.notice with debounce := none, key := .idle } } := by
  simp [takeKey, hl, hk]

theorem takeKey_release_short {k : Nat} (hl : s.notice.akeyLow = false) (hk : s.notice.key = .pressed k) :
    s.takeKey =
      ({ s with notice := { s.notice with debounce := none, key := .idle } } : State).shortPress := by
  simp [takeKey, hl, hk]

/-- The key after a long press (R98). -/
def longPressed (s : State) : State := { s with notice := { s.notice with key := .long } }

theorem shortPress_lanes : s.shortPress.lanes = s.lanes.map (fun l => { l with beaconLit := false }) := rfl

/-- After a short press no lane demands a beacon, so every output is dark. -/
theorem shortPress_dark (b : Fin 4) : s.shortPress.notice.beacons.get b = .off := by
  have follow : s.shortPress.BeaconsFollow := refreshBeacons_follow _
  by_contra hdriven
  obtain ⟨-, n, hlit, -⟩ := ((follow b).1).1 hdriven
  simp [shortPress_lanes] at hlit

end State

open State

/-! ### The commands -/

variable {s : State} {e : Nat}

theorem exec_noticeSpacing (h : s.notice.spacing = some e) :
    exec .noticeSpacingElapsed s = .next (s.elapse (s.mgmt.settings.spacing - e)) := by
  simp only [exec, execNoticeSpacingElapsed, h]

theorem exec_beaconPhase {b : Fin 4} {high : Bool} (h : s.notice.beacons.get b = .flashing high e) :
    exec (.beaconPhaseToggle b) s = .next { s.elapse (500 - e) with notice := {
      (s.elapse (500 - e)).notice with
        beacons := (s.elapse (500 - e)).notice.beacons.set b (.flashing (!high) (e - 500)) } } := by
  simp only [exec, execBeaconPhaseToggle, h]
  rfl

theorem exec_akeyLevel {low : Bool} (h : low ≠ s.notice.akeyLow) : exec (.akeyLevelChange low) s =
    .next { s with notice := { s.notice with
      akeyLow := low, debounce := if low != s.keyDown then some 0 else none } } := by
  simp only [exec, execAkeyLevelChange, if_neg h]

theorem exec_debounce (h : s.notice.debounce = some e) :
    exec .debounceExpiry s = .next (s.elapse (20 - e)).takeKey := by
  simp only [exec, execDebounceExpiry, h]
  rfl

theorem exec_holdTimer (h : s.notice.key = .pressed e) :
    exec .holdTimerExpiry s = .next (s.elapse (4000 - e)).longPressed.toggleHold := by
  simp only [exec, execHoldTimerExpiry, h]
  rfl

/-- Settles O41: after what remains of the measure it is complete. -/
theorem spacingAndBeaconRhythm : Obligations.SpacingAndBeaconRhythm := by
  refine fun s => ⟨fun e he => ?_, fun b high e hb he => ?_⟩
  · have spacing : (s.elapse (s.mgmt.settings.spacing - e)).notice.spacing =
        some (e + (s.mgmt.settings.spacing - e)) := congrArg (Option.map (· + _)) he
    exact ⟨_, exec_noticeSpacing he, rfl, _, spacing, by omega⟩
  · simpa [Nat.sub_eq_zero_of_le he] using exec_beaconPhase hb

/-- Settles O42, by the level of the input and the state of the key. -/
theorem aisleKeyDebounces : Obligations.AisleKeyDebounces := by
  refine fun s => ⟨fun low hlow => ?_, fun e he => ?_⟩
  · rw [exec_akeyLevel hlow, keyDown]
    cases low <;> cases s.notice.key <;> rfl
  · have key {k : KeyState} (hk : s.notice.key = k) :
        (s.elapse (20 - e)).notice.key = k.elapse (20 - e) := hk ▸ rfl
    refine ⟨fun hl hk => ?_, fun hl hk => ?_, fun k hl hk => ⟨_, exec_debounce he, ?_⟩⟩
    · rw [exec_debounce he, takeKey_press (s := s.elapse (20 - e)) hl (key hk)]
    · rw [exec_debounce he, takeKey_release_long (s := s.elapse (20 - e)) hl (key hk)]
    · rw [takeKey_release_short (s := s.elapse (20 - e)) hl (key hk)]
      exact ⟨rfl, shortPress_dark⟩

/-- Settles O43, by whether aisle hold is in force. -/
theorem longPressTogglesHold : Obligations.LongPressTogglesHold := by
  intro s e hk
  refine ⟨fun hoff => ?_, fun hon => ⟨_, exec_holdTimer hk, ?_⟩⟩
  · rw [exec_holdTimer hk, toggleHold_of_off (s := (s.elapse (4000 - e)).longPressed) hoff]
    rfl
  · rw [toggleHold_of_on (s := (s.elapse (4000 - e)).longPressed) hon]
    exact ⟨endHold_sameButLanes hon, endHold_lane hon⟩

end Sys2Proof.Machine
end

section
/-! The requests that may be broadcast: WRITE GROUP (O22), NOTICE OUTPUT (O26), AISLE HOLD and RELEASE (O27). -/

namespace Sys2Proof.Machine

theorem Route.ofCode_eq_none {n : Nat} : Route.ofCode n = none ↔ 2 < n := by
  rcases n with _ | _ | _ | n <;> simp [Route.ofCode]

theorem NoticeOutput.ofCode_eq_none {n : Nat} : NoticeOutput.ofCode n = none ↔ 1 < n := by
  rcases n with _ | _ | n <;> simp [NoticeOutput.ofCode]

theorem Group.announcing_iff (g : Group) :
    g.announcing = true ↔ g.enable = true ∧ g.route ≠ .beacon := by
  unfold Group.announcing
  cases g.route <;> simp [Route.toNotice]

namespace State

variable {s : State} {tag : Byte} {code : RequestCode} {fields : List Byte}

/-! ### A request taken at its delivery, unicast or broadcast -/

/-- The state after a request has been performed: a broadcast one is not answered (R157). -/
def concluded (broadcast : Bool) (tag : Byte) (code : RequestCode) (a : Answer) : State :=
  if broadcast then a.state else reply tag code a

theorem submit_addressed (h : s.TakesAtOnce) (hc : code.broadcastable = true)
    (hf : code.fits (fields.length + 1) = true) (broadcast : Bool) :
    s.submit (addressed broadcast code tag fields) =
      concluded broadcast tag code (s.perform code tag (code.code :: fields)) := by
  cases broadcast with
  | true => exact exec_broadcast_fits h code hc hf
  | false =>
    have hcommit : code ≠ .commit := by
      rintro rfl
      cases hc
    rw [submit_taken h, ← answer_of_fits code (code.code :: fields) hf]
    exact execute_unicast code (by simp [hcommit])

theorem concluded_refuse (broadcast : Bool) (r : Result) : concluded broadcast tag code (s.refuse r) =
    if broadcast then s else s.answered tag [code.code, byteOf r.code] := rfl

theorem concluded_done (broadcast : Bool) : concluded broadcast tag code s.done =
    if broadcast then s else s.answered tag [code.code, 0x00] := rfl

theorem SameButLanes.answeredUnless {u t : State} (h : u.SameButLanes t) (broadcast : Bool) (p : List Byte) :
    (if broadcast then u else u.answered tag p).SameButLanes
      (if broadcast then t else t.answered tag p) := by
  cases broadcast with
  | true => exact h
  | false => exact h.answered p

theorem lanes_answeredUnless (broadcast : Bool) (p : List Byte) :
    (if broadcast then s else s.answered tag p).lanes = s.lanes := by
  cases broadcast <;> rfl

/-! ### WRITE GROUP (R82 to R84) -/

/-- The group becomes announcing where it is stored over the old one (R83). -/
def Announces (s : State) (n : Fin 16) (g : Group) : Prop :=
  (g.enable = true ∧ g.route ≠ .beacon)
    ∧ ¬ ((s.notice.groups.get n).enable = true ∧ (s.notice.groups.get n).route ≠ .beacon)

theorem storeGroup_frame (n : Fin 16) (g : Group) : s.storeGroup n g =
    { s with notice := { s.notice with groups := s.notice.groups.set n g }
             lanes := (s.storeGroup n g).lanes } := by
  unfold storeGroup
  simp only
  split_ifs <;> rfl

theorem close_storeGroup_sameButLanes (n : Fin 16) (g : Group) :
    ({ s with notice := { s.notice with groups := s.notice.groups.set n g } } : State).SameButLanes
      (close s (s.storeGroup n g)) := by
  rw [storeGroup_frame]
  exact close_withLanes rfl _

theorem storeGroup_lane_announced {n : Fin 16} {g : Group} {m : Fin 128} (ha : s.Announces n g)
    (hg : (s.lanes.get m).config.group = n) (hp : (s.lanes.get m).alertPending = true)
    (hn : (s.lanes.get m).alertAnnounced = false) : (s.storeGroup n g).lanes.get m =
      { s.lanes.get m with kinds := { (s.lanes.get m).kinds with band := true } } := by
  unfold Announces at ha
  rw [← Group.announcing_iff, ← Group.announcing_iff] at ha
  simp [storeGroup, ha, mapLanes, hg, Lane.announce, hp, hn]

theorem storeGroup_lane_kept {n : Fin 16} {g : Group} {m : Fin 128}
    (h : ¬ (s.Announces n g ∧ (s.lanes.get m).config.group = n ∧ (s.lanes.get m).alertPending = true
      ∧ (s.lanes.get m).alertAnnounced = false)) :
    (s.storeGroup n g).lanes.get m = s.lanes.get m := by
  unfold Announces at h
  rw [← Group.announcing_iff, ← Group.announcing_iff] at h
  unfold storeGroup
  simp only
  split_ifs with ha
  · rw [mapLanes, Table.get_map]
    split_ifs with hg
    · have hn : ((s.lanes.get m).alertPending && !(s.lanes.get m).alertAnnounced) = false := by
        simp_all
      simp [Lane.announce, hn]
    · rfl
  · rfl

/-- The group fields of a WRITE GROUP are read back (Table 9-1). -/
theorem requestWriteGroup_stored (b : Byte) (n : Fin 16) (enable : Byte) (priority : Fin 8) (route : Route)
    (beacon : Fin 4) :
    s.requestWriteGroup [b, byteOf n.val, enable, byteOf priority.val, route.byte, byteOf beacon.val] =
      (close s (s.storeGroup n ⟨enable != 0x00, priority.val, route, beacon⟩)).done := by
  have hroute : Route.ofCode route.byte.toNat = some route := by cases route <;> rfl
  simp only [requestWriteGroup, byteAt_succ, byteAt_zero, index_byteOf n (by decide),
    index_byteOf priority (by decide), index_byteOf beacon (by decide), hroute, yesAt, toNat_bne_zero]

theorem requestWriteGroup_no_group {b n enable priority route beacon : Byte} (hn : 15 < n.toNat) :
    s.requestWriteGroup [b, n, enable, priority, route, beacon] = s.refuse .noSuch := by
  simp only [requestWriteGroup, byteAt_succ, byteAt_zero, index_of_le (Nat.succ_le_of_lt hn)]

theorem requestWriteGroup_bad {b n enable priority route beacon : Byte} (hn : n.toNat ≤ 15)
    (h : 7 < priority.toNat ∨ 2 < route.toNat ∨ 3 < beacon.toNat) :
    s.requestWriteGroup [b, n, enable, priority, route, beacon] = s.refuse .badValue := by
  simp only [requestWriteGroup, byteAt_succ, byteAt_zero, index_of_lt (Nat.lt_succ_of_le hn)]
  rcases h with h | h | h
  · rw [index_of_le (Nat.succ_le_of_lt h)]
  · rw [Route.ofCode_eq_none.2 h]
    cases index 8 priority.toNat <;> rfl
  · rw [index_of_le (Nat.succ_le_of_lt h)]
    cases index 8 priority.toNat <;> cases Route.ofCode route.toNat <;> rfl

end State

open State

variable {s : State} {tag : Byte}

theorem exec_writeGroup (h : s.TakesAtOnce) (broadcast : Bool) (n enable priority route beacon : Byte) :
    exec (.writeGroup broadcast tag [n, enable, priority, route, beacon]) s =
      .next (concluded broadcast tag .writeGroup
        (s.requestWriteGroup [0x24, n, enable, priority, route, beacon])) :=
  congrArg Host.Outcome.next (submit_addressed h rfl rfl broadcast)

/-- Settles O22, by the group and the fields; the lanes by whether the group becomes announcing. -/
theorem writeGroupStoresAndAnnounces : Obligations.WriteGroupStoresAndAnnounces := by
  refine fun s tag h => ⟨fun broadcast n enable priority route beacon => ?_,
    fun n enable priority route beacon => ⟨fun hn => ?_, fun hn hbad => ?_⟩⟩
  · have exec_eq := exec_writeGroup (tag := tag) h broadcast (byteOf n.val) enable (byteOf priority.val)
      route.byte (byteOf beacon.val)
    rw [requestWriteGroup_stored, concluded_done] at exec_eq
    refine ⟨_, exec_eq, ?_, fun m => ?_⟩
    · have kept := (close_storeGroup_sameButLanes (s := s) n ⟨enable != 0x00, priority.val, route, beacon⟩
        ).answeredUnless (tag := tag) broadcast [0x24, 0x00]
      cases broadcast <;> exact kept
    · rw [lanes_answeredUnless, close_lane]
      refine ⟨fun ha hg hp hn => ?_, fun hk => ?_⟩
      · rw [storeGroup_lane_announced ha hg hp hn, storeGroup_frame]
        rfl
      · rw [storeGroup_lane_kept hk, Lane.settleDue_self]
  · simp only [exec_writeGroup h, requestWriteGroup_no_group hn, concluded_refuse]
    exact ⟨rfl, rfl⟩
  · simp only [exec_writeGroup h, requestWriteGroup_bad hn hbad, concluded_refuse]
    exact ⟨rfl, rfl⟩

/-! ### NOTICE OUTPUT (R94 to R96) -/

theorem exec_noticeOutput (h : s.TakesAtOnce) (broadcast : Bool) (c : Byte) :
    exec (.noticeOutput broadcast tag [c]) s =
      .next (concluded broadcast tag .noticeOutput (s.requestNoticeOutput [0x04, c])) :=
  congrArg Host.Outcome.next (submit_addressed h rfl rfl broadcast)

/-- Notice output is written, and the beacons follow (R94, R95). -/
def State.outputWritten (s : State) (o : NoticeOutput) : State :=
  ({ s with notice := { s.notice with output := o } } : State).refreshBeacons

theorem State.requestNoticeOutput_stored (b : Byte) (o : NoticeOutput) :
    s.requestNoticeOutput [b, o.byte] = (s.outputWritten o).done := by
  cases o <;> rfl

theorem State.requestNoticeOutput_bad {b c : Byte} (h : 1 < c.toNat) :
    s.requestNoticeOutput [b, c] = s.refuse .badValue := by
  simp only [requestNoticeOutput, byteAt_succ, byteAt_zero, NoticeOutput.ofCode_eq_none.2 h]

/-- Settles O26: the beacons follow the value written, and those that follow stay as they are. -/
theorem noticeOutputStoresAndDrives : Obligations.NoticeOutputStoresAndDrives := by
  refine fun s tag h => ⟨fun broadcast o => ?_, fun c hc => ?_⟩
  · have follow : (s.outputWritten o).BeaconsFollow := refreshBeacons_follow _
    have rhythm : rhythmKept s.notice.beacons (s.outputWritten o).notice.beacons :=
      refreshBeacons_rhythm { s with notice := { s.notice with output := o } }
    have same (hs : s.BeaconsFollow) (ho : s.notice.output = o) : s.outputWritten o = s := by
      subst ho
      exact refreshBeacons_of_follow s hs
    have exec_eq := exec_noticeOutput (tag := tag) h broadcast o.byte
    rw [requestNoticeOutput_stored, concluded_done] at exec_eq
    refine ⟨_, exec_eq, ?_⟩
    cases broadcast with
    | true => exact ⟨rfl, follow, rhythm, same⟩
    | false => exact ⟨rfl, follow, rhythm, fun hs ho => congrArg (State.answered · tag _) (same hs ho)⟩
  · simp only [exec_noticeOutput h, requestNoticeOutput_bad hc, concluded_refuse]
    exact ⟨rfl, rfl⟩

/-! ### AISLE HOLD and AISLE RELEASE (R100, R101) -/

theorem exec_aisleHold (h : s.TakesAtOnce) (broadcast : Bool) : exec (.aisleHold broadcast tag []) s =
    .next (concluded broadcast tag .aisleHold s.startHold.done) :=
  congrArg Host.Outcome.next (submit_addressed h rfl rfl broadcast)

theorem exec_aisleRelease (h : s.TakesAtOnce) (broadcast : Bool) :
    exec (.aisleRelease broadcast tag []) s =
      .next (concluded broadcast tag .aisleRelease s.endHold.done) :=
  congrArg Host.Outcome.next (submit_addressed h rfl rfl broadcast)

/-- Settles O27, by whether aisle hold is in force. -/
theorem aisleHoldAndRelease : Obligations.AisleHoldAndRelease := by
  refine fun s tag broadcast h => ⟨?_, fun hoff => ?_, fun hon => ⟨_, exec_aisleRelease h broadcast, ?_⟩⟩
  · rw [exec_aisleHold h, concluded_done]
    cases broadcast <;> rfl
  · rw [exec_aisleRelease h, concluded_done, endHold_of_off hoff]
    rfl
  · rw [concluded_done]
    refine ⟨?_, fun n => ?_⟩
    · have kept := (endHold_sameButLanes hon).answeredUnless (tag := tag) broadcast [0x41, 0x00]
      cases broadcast <;> exact kept
    · rw [lanes_answeredUnless]
      exact endHold_lane hon n

end Sys2Proof.Machine
end

section
/-! RELAY (O25): the checks of R115 in their order, and how its entry begins. -/

namespace Sys2Proof.Machine

/-! ### The node of an address (6.5) -/

/-- Over a list with different addresses, an address has the one occupied slot that carries it. -/
theorem Image.slotAt_eq_some {image : Image} (h : image.DistinctAddresses) {g : Segment}
    {address : BitVec 6} {slot : Fin 64} : image.slotAt g address = some slot ↔
      segmentOf slot = g ∧ (image.sweep.get slot).occupied = true
        ∧ (image.sweep.get slot).address = address := by
  have sound {i : Fin 64} (hi : image.slotAt g address = some i) : segmentOf i = g
      ∧ (image.sweep.get i).occupied = true ∧ (image.sweep.get i).address = address := by
    have hm := List.mem_of_find?_eq_some hi
    have hp := List.find?_some hi
    rw [mem_slotsOf] at hm
    simpa [hm] using hp
  refine ⟨sound, fun ⟨hg, ho, ha⟩ => ?_⟩
  have hsome : (image.slotAt g address).isSome := by
    rw [Image.slotAt, List.find?_isSome]
    exact ⟨slot, (mem_slotsOf g slot).2 hg, by simp [ho, ha]⟩
  obtain ⟨i, hi⟩ := Option.isSome_iff_exists.1 hsome
  obtain ⟨ig, io, ia⟩ := sound hi
  rw [hi, h i slot (ig.trans hg.symm) io ho (ia.trans ha.symm)]

theorem NodeState.lost_eq_false (x : NodeState) : x.lost = false ↔ x = .active ∨ x = .doubtful := by
  cases x <;> simp [NodeState.lost]

namespace State

variable {s : State} {tag : Byte}

/-- An accepted relay begins open or has ended with NO_NODE (R115). -/
theorem acceptOutcome_cases (g : Segment) (address : BitVec 6) :
    s.acceptOutcome g address = none ∨ s.acceptOutcome g address = some .noNode := by
  unfold acceptOutcome
  split
  · exact .inr rfl
  · split_ifs
    · exact .inr rfl
    · exact .inl rfl

/-- It is open exactly where its node stands in the active list and is not lost (R115). -/
theorem acceptOutcome_eq_none (h : s.active.DistinctAddresses) (g : Segment) (address : BitVec 6) :
    s.acceptOutcome g address = none ↔ ∃ slot : Fin 64, segmentOf slot = g
      ∧ (s.active.sweep.get slot).occupied = true ∧ (s.active.sweep.get slot).address = address
      ∧ ((s.nodes.get slot).state = .active ∨ (s.nodes.get slot).state = .doubtful) := by
  have hopen : s.acceptOutcome g address = none ↔
      ∃ slot, s.active.slotAt g address = some slot ∧ (s.nodes.get slot).state.lost = false := by
    unfold acceptOutcome
    cases s.active.slotAt g address <;> simp
  simp only [hopen, Image.slotAt_eq_some h, NodeState.lost_eq_false, and_assoc]

/-! ### The request -/

/-- The station after an accepted RELAY, before its REPLY: the entry joins its queue with the next acceptance
number (Table 6-3). -/
def relayQueued (s : State) (g : Segment) (tag : Byte) (address : BitVec 6) (disturbs : Bool)
    (message : List Byte) : State :=
  { s.setSweep g { s.sweep g with relays := (s.sweep g).relays ++
      [{ acceptance := s.nextAcceptance, tag := tag, address := address, disturbs := disturbs
         message := message, failed := 0, outcome := s.acceptOutcome g address }] } with
    nextAcceptance := s.nextAcceptance + 1 }

variable {b code address disturbs : Byte} {message : List Byte}

/-- A message of 1 to 16 bytes passes the length check of the request. -/
theorem message_length_passes (h1 : 1 ≤ message.length) (h16 : message.length ≤ 16) :
    (message.length < 1 || 16 < message.length) = false := by
  simp only [Bool.or_eq_false_iff, decide_eq_false_iff_not]
  omega

theorem requestRelay_bad (h1 : 1 ≤ message.length) (h16 : message.length ≤ 16)
    (h : 1 < code.toNat ∨ address.toNat = 0 ∨ 62 < address.toNat) :
    s.requestRelay tag ([b, code, address, disturbs] ++ message) = s.refuse .badValue := by
  have hl := message_length_passes h1 h16
  simp only [requestRelay, List.cons_append, List.nil_append, List.drop_succ_cons, List.drop_zero, hl,
    byteAt_succ, byteAt_zero]
  cases hg : Segment.ofCode code.toNat with
  | none => rfl
  | some g =>
    have hc : ¬ 1 < code.toNat := fun hc => by simp [ofCode_eq_none.2 hc] at hg
    have ha : (address.toNat < 1 || 62 < address.toNat) = true := by
      simp only [Bool.or_eq_true, decide_eq_true_eq]
      omega
    exact (if_neg nofun).trans (if_pos ha)

theorem requestRelay_good (g : Segment) (a : BitVec 6) (ha1 : 1 ≤ a.toNat) (ha62 : a.toNat ≤ 62)
    (h1 : 1 ≤ message.length) (h16 : message.length ≤ 16) :
    s.requestRelay tag ([b, byteOf g.code, a.setWidth 8, disturbs] ++ message) =
      if 8 ≤ (s.sweep g).relays.length then s.refuse .queueFull
      else (s.relayQueued g tag a (disturbs != 0x00) message).done := by
  have hl := message_length_passes h1 h16
  have hw : (a.setWidth 8).toNat = a.toNat := BitVec.toNat_setWidth_of_le (by decide)
  have ha : (a.toNat < 1 || 62 < a.toNat) = false := by
    simp only [Bool.or_eq_false_iff, decide_eq_false_iff_not]
    omega
  simp only [requestRelay, List.cons_append, List.nil_append, List.drop_succ_cons, List.drop_zero, hl,
    byteAt_succ, byteAt_zero, ofCode_byteOf, hw, ha, yesAt, toNat_bne_zero, BitVec.ofNat_toNat,
    BitVec.setWidth_eq]
  rfl

theorem exec_relay (h : s.TakesAtOnce) (h1 : 1 ≤ message.length) (h16 : message.length ≤ 16) :
    exec (.relay tag ([code, address, disturbs] ++ message)) s = .next
      (reply tag .relay (s.requestRelay tag ([0x32, code, address, disturbs] ++ message))) := by
  refine exec_command_fits h .relay nofun ?_
  rw [RequestCode.fits_iff]
  exact ⟨message.length, h1, h16, by simp; omega⟩

end State

/-- Settles O25, by the checks in their order; the entry's outcome by the slot of its address. -/
theorem relayIsQueued : Obligations.RelayIsQueued := by
  refine fun s tag h distinct => ⟨fun g address disturbs message ha1 ha62 h1 h16 => ?_,
    fun g address disturbs message h1 h16 hbad => ?_⟩
  · have exec_eq := State.exec_relay (tag := tag) (code := byteOf g.code) (address := address.setWidth 8)
      (disturbs := disturbs) h h1 h16
    rw [State.requestRelay_good g address ha1 ha62 h1 h16] at exec_eq
    refine ⟨fun room => ⟨s.acceptOutcome g address, ?_, State.acceptOutcome_cases g address,
      State.acceptOutcome_eq_none distinct g address⟩, fun full => ?_⟩
    · rw [if_neg (Nat.not_le.2 room)] at exec_eq
      exact exec_eq
    · rw [if_pos full] at exec_eq
      exact exec_eq
  · rw [State.exec_relay h h1 h16, State.requestRelay_bad h1 h16 hbad]
    rfl

end Sys2Proof.Machine
end

section
/-! The shelf line: the sweep timer (O44), and the ends and beginnings that decide no outcome (O45). -/

namespace Sys2Proof.Machine

variable {s : State} {g : Segment} {v : Visit}

/-! ### The sweep timer (R105) -/

theorem exec_sweepTimer_expired (h : (s.sweep g).timerExpired = true) :
    exec (.sweepTimerExpiry g) s = .next
      (if (s.sweep g).visit.isSome then s else s.setSweep g ((s.sweep g).startSweep s.active g)) := by
  simp only [exec, execSweepTimerExpiry, h, if_true]
  split_ifs <;> rfl

theorem exec_sweepTimer_running (h : (s.sweep g).timerExpired = false) :
    let u := s.elapse (s.mgmt.settings.period g - (s.sweep g).sinceStart)
    exec (.sweepTimerExpiry g) s = .next (u.setSweep g ((u.sweep g).expire s.active g)) := by
  simp only [exec, execSweepTimerExpiry, h]
  rfl

@[simp] theorem SweepEngine.elapse_visit (e : SweepEngine) (d : Nat) :
    (e.elapse d).visit = e.visit.map (Visit.elapse d) := rfl

theorem SweepEngine.expire_of_none {e : SweepEngine} (h : e.visit = none) (image : Image) (g : Segment) :
    e.expire image g = e.startSweep image g := by
  simp [SweepEngine.expire, h]

theorem SweepEngine.expire_of_isSome {e : SweepEngine} (h : e.visit.isSome = true) (image : Image)
    (g : Segment) : e.expire image g = { e with owed := true, timerExpired := true } := by
  simp [SweepEngine.expire, h]

/-- Settles O44, by whether the timer already stands expired and whether a visit is in progress. -/
theorem sweepTimerStartsOrOwes : Obligations.SweepTimerStartsOrOwes := by
  intro s g u
  cases ht : (s.sweep g).timerExpired with
  | true =>
    have hu : u = s := if_pos ht
    rw [hu, exec_sweepTimer_expired ht]
    refine ⟨fun hv => ⟨_, ?_, SweepEngine.startSweep_begun s.active g (s.sweep g)⟩, fun _ => nofun,
      fun hv _ => ?_⟩
    · simp [hv]
    · simp [hv]
  | false =>
    have hu : u = s.elapse (s.mgmt.settings.period g - (s.sweep g).sinceStart) := if_neg (by simp [ht])
    have hvisit : (u.sweep g).visit.isSome = (s.sweep g).visit.isSome := by simp [hu]
    rw [exec_sweepTimer_running ht, ← hu]
    refine ⟨fun hv => ⟨_, rfl, ?_⟩, fun hv _ => ?_, fun _ => nofun⟩
    · rw [SweepEngine.expire_of_none (by simp [hu, hv])]
      exact SweepEngine.startSweep_begun s.active g _
    · rw [SweepEngine.expire_of_isSome (hvisit.trans hv)]

/-! ### Transmissions and receptions (R108, R109) -/

theorem exec_transmissionEnd (hv : (s.sweep g).visit = some v) (hs : v.stage = .sending) :
    exec (.shelfTransmissionEnd g) s = .next (s.setSweep g { s.sweep g with
      visit := some { v with stage := .window 0 (s.mgmt.settings.window g) } }) := by
  simp only [exec, execShelfTransmissionEnd, hv, hs]
  rfl

theorem exec_receptionBegins_between (hv : (s.sweep g).visit = none) :
    exec (.shelfReceptionBegins g) s = .next (s.setSweep g { s.sweep g with stray := true }) := by
  simp only [exec, execShelfReceptionBegins, hv]

/-- What the beginning of a reception is in a visit, by its stage (R108, R109, log 14). -/
theorem exec_receptionBegins_visit (hv : (s.sweep g).visit = some v) :
    exec (.shelfReceptionBegins g) s = .next (match v.stage with
      | .window _ _ => if (s.sweep g).stray then s else
          s.setSweep g { s.sweep g with visit := some { v with stage := .receiving } }
      | .receiving => s
      | .waiting | .sending => s.setSweep g { s.sweep g with stray := true }) := by
  simp only [exec, execShelfReceptionBegins, hv]
  cases v.stage with
  | window e k => split_ifs <;> rfl
  | _ => rfl

theorem exec_frameDiscarded (h : (s.sweep g).stray = true) :
    exec (.shelfFrameDiscarded g) s = .next (s.setSweep g { s.sweep g with
      stray := false, visit := (s.sweep g).visit.map Visit.sendNow }) := by
  simp only [exec, execShelfFrameDiscarded, h, if_true]

/-- A frame that waited is sent; another keeps its stage (R109). -/
theorem Visit.sendNow_eq (v : Visit) :
    v.sendNow = { v with stage := if v.stage = .waiting then .sending else v.stage } := by
  unfold Visit.sendNow
  split_ifs <;> rfl

/-- Settles O45, by the visit, its stage, and whether the line carries a reception of no phase. -/
theorem shelfLineEvents : Obligations.ShelfLineEvents := by
  refine fun s g => ⟨fun v => exec_transmissionEnd, fun v e k hv hs hstray => ?_,
    exec_receptionBegins_between, fun v hv hs => ?_, fun v e k hv hs => ?_, fun hv hstray => ?_,
    fun v hv hstray => ?_⟩
  · simp [exec_receptionBegins_visit hv, hs, hstray]
  · rw [exec_receptionBegins_visit hv]
    rcases hs with hs | hs <;> rw [hs]
  · rw [exec_receptionBegins_visit hv]
    rcases hs with hs | ⟨hs, hstray⟩
    · rw [hs]
    · simp [hs, hstray]
  · simp only [exec_frameDiscarded hstray, hv, Option.map_none]
  · rw [exec_frameDiscarded hstray, hv, Option.map_some, Visit.sendNow_eq]

end Sys2Proof.Machine
end

section
/-! The end of a visit's phase (R112, R117): what an outcome leaves in the node, the lanes, the relay queue and
the sweep, and what a discarded outcome leaves. From it the reply window that expires (O46). -/

namespace Sys2Proof.Machine

namespace State

variable {s t : State} {g : Segment} {v : Visit}

/-! ### The phase and its outcome -/

/-- The station after what a phase itself has done: each lane as `touched` leaves it, and the segment's relay
queue as it stands then. -/
def phased (s : State) (g : Segment) (touched : Lane → Lane) (relays : List Relay) : State :=
  (s.setRelays g relays).mapLanes touched

/-- Then the node takes the outcome, and the visit ends. -/
def outcomeTaken (s : State) (g : Segment) (v : Visit) (o : VisitOutcome) (touched : Lane → Lane)
    (relays : List Relay) : State :=
  ((s.phased g touched relays).nodeOutcome v.slot o).endVisit g v

/-- The record of the slot's node after the outcome, before a change of its state is reported (R123). -/
def judgedNode (s : State) (slot : Fin 64) (o : VisitOutcome) : Node :=
  (s.nodes.get slot).judge s.mgmt.settings.absentLimit (s.active.sweep.get slot).autoRecover o

theorem mapLanes_id : s.mapLanes id = s :=
  congrArg (fun lanes => { s with lanes := lanes }) s.lanes.map_id

theorem phased_id : s.phased g id (s.sweep g).relays = s := by
  rw [phased, mapLanes_id, setRelays, setSweep_self]

theorem mapLanes_sweep (f : Lane → Lane) (h : Segment) : (s.mapLanes f).sweep h = s.sweep h := by
  cases h <;> rfl

theorem nodeOutcome_eq (slot : Fin 64) (o : VisitOutcome) :
    s.nodeOutcome slot o = s.reportNode slot (s.judgedNode slot o) := rfl

section Phased
variable (touched : Lane → Lane) (relays : List Relay)

theorem phased_sweep (h : Segment) : (s.phased g touched relays).sweep h =
    if h = g then { s.sweep g with relays := relays } else s.sweep h := by
  rw [phased, mapLanes_sweep]
  split_ifs with hne
  · rw [hne, setRelays_sweep]
  · exact setSweep_sweep_ne s _ (Ne.symm hne)

theorem phased_judgedNode (slot : Fin 64) (o : VisitOutcome) :
    (s.phased g touched relays).judgedNode slot o = s.judgedNode slot o := by
  simp [judgedNode, phased]

theorem phased_judge (l k : Lane) : (s.phased g touched relays).judge l k = s.agreed l k := by
  simp [phased, judge, agreed, now, holding]

end Phased

/-! ### What else stays as it was -/

/-- Only what an outcome touches differs, read off field by field. -/
theorem sameButOutcome_of (hpending : t.pending = s.pending) (hbackbone : t.backbone = s.backbone)
    (hmgmt : t.mgmt = s.mgmt) (hstaged : t.staged = s.staged) (hactive : t.active = s.active)
    (hsequences : t.sequences = s.sequences) (hnext : t.nextAcceptance = s.nextAcceptance)
    (hnotice : t.notice = { s.notice with
      queue := t.notice.queue
      deferred := t.notice.deferred
      nextAdmission := t.notice.nextAdmission
      beacons := t.notice.beacons })
    (hsweep : ∀ h, h ≠ g → t.sweep h = s.sweep h) : s.SameButOutcome g t := by
  refine ⟨?_, hsweep⟩
  rw [← hnotice, ← hpending, ← hbackbone, ← hmgmt, ← hstaged, ← hactive, ← hsequences, ← hnext]

section Outcome
variable (o : VisitOutcome) (touched : Lane → Lane) (relays : List Relay)

theorem outcomeTaken_node (i : Fin 64) : (s.outcomeTaken g v o touched relays).nodes.get i =
    if v.slot = i then { s.judgedNode v.slot o with
      statePending := (s.nodes.get v.slot).statePending
        || (s.judgedNode v.slot o).state != (s.nodes.get v.slot).state }
    else s.nodes.get i := by
  have hnodes : (s.phased g touched relays).nodes = s.nodes := by simp [phased]
  have hpending : (s.judgedNode v.slot o).statePending = (s.nodes.get v.slot).statePending :=
    Node.judge_statePending _ _ _ _
  rw [outcomeTaken, endVisit_nodes, nodeOutcome_eq, reportNode_node, phased_judgedNode, hnodes, hpending]

/-- The states of the nodes that the lanes are told of (R10). -/
theorem outcomeTaken_state (k : Node) (hk : k.state = (s.judgedNode v.slot o).state) (i : Fin 64) :
    ((close s (s.outcomeTaken g v o touched relays)).nodes.get i).state =
      ((s.nodes.set v.slot k).get i).state := by
  rw [close_node, Node.settleDue_state, outcomeTaken_node, Table.get_set]
  split_ifs
  · exact hk.symm
  · rfl

theorem outcomeTaken_sweep (h : Segment) (hg : segmentOf v.slot = g) :
    (s.outcomeTaken g v o touched relays).sweep h = if h = g then
      ({ s.sweep g with
          relays := if (s.judgedNode v.slot o).state ≠ (s.nodes.get v.slot).state
              ∧ (s.judgedNode v.slot o).state.lost = true
            then relaysLost (s.active.sweep.get v.slot).address relays
            else relays } : SweepEngine).endVisit s.active g v.slot
      else s.sweep h := by
  have hnodes : (s.phased g touched relays).nodes = s.nodes := by simp [phased]
  have hactive : (s.phased g touched relays).active = s.active := by simp [phased]
  rw [outcomeTaken]
  split_ifs with hh hlost
  · subst hh
    rw [endVisit_sweep, nodeOutcome_eq, reportNode_sweep, reportNode_active, phased_judgedNode, hnodes,
      hactive, phased_sweep, if_pos rfl, if_pos ⟨hlost.1, hlost.2, hg⟩, loseRelays_eq]
  · subst hh
    rw [endVisit_sweep, nodeOutcome_eq, reportNode_sweep, reportNode_active, phased_judgedNode, hnodes,
      hactive, phased_sweep, if_pos rfl, if_neg (fun hl => hlost ⟨hl.1, hl.2.1⟩)]
  · rw [endVisit_sweep_ne _ _ _ hh, nodeOutcome_eq, reportNode_sweep, phased_sweep, if_neg hh,
      if_neg (fun hl => hh (hl.2.2.symm.trans hg))]

/-- A lane that a phase has touched, after the report of a change of its node's state (R131, R7, R10). -/
theorem outcomeTaken_lane (m : Fin 128) :
    let l := touched (s.lanes.get m)
    let k := s.judgedNode v.slot o
    (s.outcomeTaken g v o touched relays).lanes.get m =
      if k.state ≠ (s.nodes.get v.slot).state ∧ ∃ c ∈ l.cells, c.ref.slot = v.slot then
        s.agreed l ((if k.state.lost = true ∧ l.state.counting = true then l.wentBlind else l).doubted
          (close s (s.outcomeTaken g v o touched relays)).nodes)
      else l := by
  intro l k
  have hnodes : (s.phased g touched relays).nodes = s.nodes := by simp [phased]
  have hlane : (s.phased g touched relays).lanes.get m = l := by simp [phased, l]
  have hfed : l.fedBy v.slot = true ↔ ∃ c ∈ l.cells, c.ref.slot = v.slot := by simp [Lane.fedBy]
  have hblind : (if k.state.lost = true then l.nodeLost else l) =
      if k.state.lost = true ∧ l.state.counting = true then l.wentBlind else l := by
    rw [ite_and]
    rfl
  have hdoubted := Lane.doubted_congr (outcomeTaken_state (s := s) (g := g) (v := v) o touched relays
    { k with statePending := true } rfl)
    (if k.state.lost = true ∧ l.state.counting = true then l.wentBlind else l)
  rw [hdoubted, ← hblind, ← Lane.setDoubt_eq]
  simp only [outcomeTaken, endVisit_lanes, nodeOutcome_eq, reportNode_lane, phased_judgedNode, hnodes, hlane,
    phased_judge, hfed, k]

/-- The closed event of a phase's outcome is what the statements say of it. -/
theorem close_tookOutcome (hg : segmentOf v.slot = g) :
    s.TookOutcome (close s (s.outcomeTaken g v o touched relays)) g v o touched relays := by
  have hnow : (s.outcomeTaken g v o touched relays).now = s.backbone.clock := by
    simp [now, outcomeTaken, nodeOutcome, phased]
  have hnotice : (s.outcomeTaken g v o touched relays).notice = s.notice := by
    simp [outcomeTaken, nodeOutcome, phased]
  unfold TookOutcome
  intro position n n' reported lost
  have hreported : reported = true ↔ (s.judgedNode v.slot o).state ≠ (s.nodes.get v.slot).state := bne_iff_ne
  have hlost : lost = true ↔ (s.judgedNode v.slot o).state ≠ (s.nodes.get v.slot).state
      ∧ (s.judgedNode v.slot o).state.lost = true := by
    simp only [lost, Bool.and_eq_true, hreported, NodeState.lost_iff, Bool.or_eq_true, beq_iff_eq]
    rfl
  refine ⟨sameButOutcome_of ?_ ?_ ?_ ?_ ?_ ?_ ?_ ?_ fun h hne => ?_, fun i hi => ?_, ?_, fun m => ?_,
    close_follow _ _, ?_, ?_⟩
  iterate 6 simp [outcomeTaken, nodeOutcome, phased]
  · simp [outcomeTaken, nodeOutcome, phased, setRelays]
  · rw [← hnotice]
    exact close_notice _ _
  · rw [close_sweep, outcomeTaken_sweep o touched relays h hg, if_neg hne]
  · rw [close_node, outcomeTaken_node, if_neg (Ne.symm hi), Node.settleDue_self]
  · rw [close_node, outcomeTaken_node, if_pos rfl, hnow]
    rfl
  · rw [close_lane, outcomeTaken_lane, hnow]
    simp only [hreported, hlost]
    by_cases he : (s.judgedNode v.slot o).state = (s.nodes.get v.slot).state
    · simp only [ne_eq, he, not_true_eq_false, false_and, if_false]
    · simp only [ne_eq, he, not_false_eq_true, true_and]
  · rw [← hnotice]
    exact close_rhythm _ _
  · rw [close_sweep, outcomeTaken_sweep o touched relays g hg, if_pos rfl]
    simp only [hlost]
    exact SweepEngine.endVisit_movedOn _ _ _ _

end Outcome

/-- Where only a visit ends, nothing but its engine changes, and the beacons as the lanes drive them. -/
theorem close_discardedOutcome : s.DiscardedOutcome (close s (s.endVisit g v)) g v := by
  have hquiet : close s (s.endVisit g v) = (s.endVisit g v).refreshBeacons :=
    close_quiet fun x => by cases x <;> simp [kindPending]
  have hsweep : (close s (s.endVisit g v)).sweep g = (s.sweep g).endVisit s.active g v.slot := by simp
  refine ⟨?_, fun follow => ?_, ?_⟩
  · rw [hsweep, hquiet]
    cases g <;> rfl
  · have : (s.endVisit g v).BeaconsFollow := by cases g <;> exact follow
    rw [hquiet, refreshBeacons_of_follow _ this, endVisit_notice]
  · rw [hsweep]
    exact SweepEngine.endVisit_movedOn _ _ _ _

/-! ### The phases by their outcome (R112, R117, R28) -/

theorem endPoll_changed (h : v.changed = true) (o : Except VisitOutcome Reading) :
    s.endPoll g v o = s.endVisit g v := if_pos h

theorem endRelay_changed (h : v.changed = true) (k : Nat) (o : Except VisitOutcome Bool) :
    s.endRelay g v k o = s.endVisit g v := if_pos h

theorem endPoll_error (h : v.changed = false) (o : VisitOutcome) :
    s.endPoll g v (.error o) = s.outcomeTaken g v o id (s.sweep g).relays := by
  rw [outcomeTaken, phased_id, endPoll, h]
  rfl

/-- What the outcome of a relay phase does to a lane: a delivered relay that disturbs readings clears the
windows of the lanes that its node feeds (R117, R6). -/
def relayTouched (slot : Fin 64) (r : Relay) (o : Except VisitOutcome Bool) (l : Lane) : Lane :=
  if ((r.answer o).outcome = some .delivered && r.disturbs) = true ∧ l.fedBy slot = true then l.disturb else l

/-- The relay in delivery stands once in its queue, and alone takes the outcome of its phase. -/
theorem endRelay_eq {before after : List Relay} {r : Relay} (h : v.changed = false)
    (hq : (s.sweep g).relays = before ++ [r] ++ after) (ho : r.outcome = none)
    (hu : ∀ q ∈ before ++ after, q.acceptance ≠ r.acceptance) (o : Except VisitOutcome Bool) :
    s.endRelay g v r.acceptance o = s.outcomeTaken g v (answerClass o) (relayTouched v.slot r o)
      (before ++ [r.answer o] ++ after) := by
  have hopen : r.isOpen = true := by simp [Relay.isOpen, ho]
  have hbefore : ∀ q ∈ before, (q.isOpen && q.acceptance == r.acceptance) = false := fun q hm => by
    simp [hu q (List.mem_append_left _ hm)]
  have hafter : ∀ q ∈ after, (q.isOpen && q.acceptance == r.acceptance) = false := fun q hm => by
    simp [hu q (List.mem_append_right _ hm)]
  have hfind : (s.sweep g).relays.find? (fun q => q.isOpen && q.acceptance == r.acceptance) = some r := by
    rw [hq, List.append_assoc, List.find?_append, List.find?_eq_none.2 fun q hm => by simp [hbefore q hm]]
    simp [hopen]
  have hmap : (s.sweep g).relays.map (fun q =>
      if q.isOpen && q.acceptance == r.acceptance then q.answer o else q) =
        before ++ [r.answer o] ++ after := by
    have hid (qs : List Relay) (hn : ∀ q ∈ qs, (q.isOpen && q.acceptance == r.acceptance) = false) :
        qs.map (fun q => if q.isOpen && q.acceptance == r.acceptance then q.answer o else q) = qs :=
      (List.map_congr_left fun q hm => by rw [hn q hm]; rfl).trans (List.map_id' qs)
    rw [hq, List.map_append, List.map_append, hid before hbefore, hid after hafter]
    simp [hopen]
  have hanswer : s.answerRelay g v r.acceptance o =
      s.phased g (relayTouched v.slot r o) (before ++ [r.answer o] ++ after) := by
    simp only [answerRelay, hfind, hmap, phased]
    by_cases hd : ((r.answer o).outcome = some .delivered && r.disturbs) = true
    · simp only [hd, if_true]
      congr 1
      funext l
      simp only [relayTouched, hd, true_and]
    · have hid : relayTouched v.slot r o = id := funext fun l => if_neg fun hl => hd hl.1
      rw [if_neg hd, hid, mapLanes_id]
  rw [outcomeTaken, ← hanswer, endRelay, h]
  rfl

theorem relayTouched_error (slot : Fin 64) {r : Relay} (ho : r.outcome = none) (o : VisitOutcome) :
    relayTouched slot r (.error o) = id := by
  have hout : (r.answer (.error o)).outcome ≠ some .delivered := by
    simp only [Relay.answer, Relay.fail]
    split_ifs <;> simp [ho]
  funext l
  simp [relayTouched, hout]

/-- A relay phase without a well-formed answer. -/
theorem endRelay_error {before after : List Relay} {r : Relay} (h : v.changed = false)
    (hq : (s.sweep g).relays = before ++ [r] ++ after) (ho : r.outcome = none)
    (hu : ∀ q ∈ before ++ after, q.acceptance ≠ r.acceptance) (o : VisitOutcome) :
    s.endRelay g v r.acceptance (.error o) =
      s.outcomeTaken g v o id (before ++ [r.attemptFailed] ++ after) := by
  rw [endRelay_eq h hq ho hu, relayTouched_error v.slot ho]
  rfl

/-! ### The reply window expires (R108) -/

/-- What remains of the window passes first (log 3). -/
theorem exec_replyWindow {e k : Nat} (hv : (s.sweep g).visit = some v) (hs : v.stage = .window e k) :
    let u := s.elapse (k - e)
    exec (.replyWindowExpiry g) s = .next (close u (match v.relay with
      | none => u.endPoll g v (.error .missed)
      | some n => u.endRelay g v n (.error .missed))) := by
  have hvisit : ((s.elapse (k - e)).sweep g).visit = some (v.elapse (k - e)) := by simp [hv]
  simp only [exec, execReplyWindowExpiry, hv, hs, endMissed, hvisit]
  have hrelay : (v.elapse (k - e)).relay = v.relay := rfl
  rw [hrelay]
  cases v.relay <;> rfl

end State

/-- Settles O46, by the phase of the visit and whether a COMMIT changed its slot. -/
theorem windowExpiryIsMissed : Obligations.WindowExpiryIsMissed := by
  intro s g v e k hv hs hg u
  have exec_eq := State.exec_replyWindow hv hs
  have hrelays : (u.sweep g).relays = (s.sweep g).relays := by
    rw [State.elapse_sweep]
    rfl
  refine ⟨fun hc hr => ?_, fun before after r hc hr hq ho hu => ?_, fun hc => ?_⟩
  · rw [hr] at exec_eq
    refine ⟨State.close u (u.endPoll g v (.error .missed)), exec_eq, ?_⟩
    rw [← hrelays, State.endPoll_error hc]
    exact State.close_tookOutcome .missed id _ hg
  · rw [hr] at exec_eq
    refine ⟨State.close u (u.endRelay g v r.acceptance (.error .missed)), exec_eq, ?_⟩
    rw [← hrelays] at hq
    rw [State.endRelay_error hc hq ho hu]
    exact State.close_tookOutcome .missed id _ hg
  · refine ⟨State.close u (u.endVisit g v), ?_, State.close_discardedOutcome⟩
    rw [exec_eq]
    cases v.relay with
    | none => rw [← State.endPoll_changed hc (.error .missed)]
    | some n => rw [← State.endRelay_changed hc n (.error .missed)]

end Sys2Proof.Machine
end

section
/-! Replies of a shelf segment: how a reception is judged (R109, R110, R117), the replies that fail (O48), and
the RELAY ANSWER (O49). -/

namespace Sys2Proof.Machine

/-! ### The checks of a reply -/

theorem crcFails_iff (b : List Byte) :
    crcFails b = true ↔ b.length < 3 ∨ b.getLast? ≠ some (crc8 b.dropLast) := by
  simp [crcFails]

theorem CellStatus.ofCode_eq_none {n : Nat} : CellStatus.ofCode n = none ↔ 2 < n := by
  rcases n with _ | _ | _ | n <;> simp [CellStatus.ofCode]

theorem rawCells_cons_eq_none (a b c st : Byte) (rest : List Byte) :
    rawCells (a :: b :: c :: st :: rest) = none ↔ 2 < st.toNat ∨ rawCells rest = none := by
  rw [← CellStatus.ofCode_eq_none, rawCells]
  cases CellStatus.ofCode st.toNat <;> cases rawCells rest <;> simp

/-- The cells of a READING are refused for a status byte with a code of no status (R110). -/
theorem rawCells_eq_none : (bs : List Byte) →
    (rawCells bs = none ↔ ∃ k, 4 * k + 3 < bs.length ∧ 2 < (bs.getD (4 * k + 3) 0).toNat)
  | a :: b :: c :: st :: rest => by
    have shift (k : Nat) : 4 * (k + 1) + 3 = 4 * k + 3 + 1 + 1 + 1 + 1 := by omega
    rw [rawCells_cons_eq_none, rawCells_eq_none rest]
    refine Iff.trans ?_ Nat.or_exists_add_one
    exact or_congr (by simp) (exists_congr fun k => by rw [shift]; simp)
  | [] | [_] | [_, _] | [_, _, _] => by simp [rawCells]

/-- The status bytes where they stand in the frame (Table 8-10). -/
theorem rawCells_frame_eq_none {b : List Byte} {n : Nat} (hl : b.length = 6 + 4 * n) :
    rawCells (b.drop 5).dropLast = none ↔ ∃ k < n, 2 < (b.getD (8 + 4 * k) 0).toNat := by
  have hcells : ((b.drop 5).dropLast).length = 4 * n := by
    simp only [List.length_dropLast, List.length_drop, hl]
    omega
  have hbyte {i : Nat} (hi : i < 4 * n) : ((b.drop 5).dropLast).getD i 0 = b.getD (5 + i) 0 := by
    have hlast : i < b.length - 5 - 1 := by omega
    simp only [List.getD_eq_getElem?_getD, List.getElem?_dropLast, List.length_drop, if_pos hlast,
      List.getElem?_drop]
  rw [rawCells_eq_none, hcells]
  refine exists_congr fun k => ?_
  rw [show 4 * k + 3 < 4 * n ↔ k < n by omega]
  refine and_congr_right fun hk => ?_
  rw [hbyte (by omega), show 5 + (4 * k + 3) = 8 + 4 * k by omega]

section Judged
variable {v : Visit} {bytes : List Byte}

theorem classifyReading_corrupt (h : crcFails (bytes.take 32) = true) :
    classifyReading v bytes = .error .corrupt := if_pos h

theorem classifyReading_malformed (hc : ¬ crcFails (bytes.take 32) = true)
    (h : (bytes.take 32).getD 1 0 ≠ 0x22 ∨ (bytes.take 32).getD 0 0 ≠ v.address.setWidth 8
      ∨ ((bytes.take 32).getD 4 0).toNat ≠ v.cellCount ∨ (bytes.take 32).length ≠ 6 + 4 * v.cellCount
      ∨ ∃ k < v.cellCount, 2 < ((bytes.take 32).getD (8 + 4 * k) 0).toNat) :
    classifyReading v bytes = .error .malformed := by
  simp only [classifyReading, Config.shelfCut, if_neg hc, kindReading, byteAt, bne_iff_ne]
  refine ite_eq_left_iff.2 fun hkind => ite_eq_left_iff.2 fun haddress => ite_eq_left_iff.2 fun hcells =>
    ite_eq_left_iff.2 fun hlength => ?_
  have hstatus := ((h.resolve_left hkind).resolve_left haddress).resolve_left hcells |>.resolve_left hlength
  rw [(rawCells_frame_eq_none (not_not.1 hlength)).2 hstatus]

/-- A RELAY ANSWER is corrupt by the same checks (R117). -/
theorem classifyAnswer_corrupt (h : crcFails (bytes.take 32) = true) :
    classifyAnswer v bytes = .error .corrupt := if_pos h

theorem classifyAnswer_malformed (hc : ¬ crcFails (bytes.take 32) = true)
    (h : (bytes.take 32).getD 1 0 ≠ 0x24 ∨ (bytes.take 32).getD 0 0 ≠ v.address.setWidth 8
      ∨ (bytes.take 32).length ≠ 4
      ∨ ((bytes.take 32).getD 2 0 ≠ 0x01 ∧ (bytes.take 32).getD 2 0 ≠ 0x02)) :
    classifyAnswer v bytes = .error .malformed := by
  simp only [classifyAnswer, Config.shelfCut, if_neg hc, kindRelayAnswer, bne_iff_ne]
  refine ite_eq_left_iff.2 fun hkind => ite_eq_left_iff.2 fun haddress => ite_eq_left_iff.2 fun hlength => ?_
  obtain ⟨haccept, hrefuse⟩ := ((h.resolve_left hkind).resolve_left haddress).resolve_left hlength
  exact (if_neg haccept).trans (if_neg hrefuse)

/-- A frame that ends with the CRC-8 of its bytes passes the first two checks of R110. -/
theorem crcFails_shelfFrame {body : List Byte} (h : 2 ≤ body.length) : crcFails (shelfFrame body) = false := by
  rw [Bool.eq_false_iff, Ne, crcFails_iff]
  simp [shelfFrame]
  omega

theorem classifyAnswer_good (v : Visit) (accept : Bool) :
    classifyAnswer v (shelfFrame [v.address.setWidth 8, 0x24, if accept then 0x01 else 0x02]) =
      .ok accept := by
  have hcrc := crcFails_shelfFrame (body := [v.address.setWidth 8, 0x24, if accept then 0x01 else 0x02])
    (Nat.le_add_left 2 1)
  simp only [shelfFrame, List.cons_append, List.nil_append] at hcrc
  simp only [classifyAnswer, Config.shelfCut, shelfFrame, List.cons_append, List.nil_append, List.take, hcrc]
  cases accept <;> simp [kindRelayAnswer]

end Judged

/-! ### A reply that is being received ends (R109) -/

variable {s : State} {g : Segment} {v : Visit}

theorem exec_reading (hv : (s.sweep g).visit = some v) (hs : v.stage = .receiving) (hr : v.relay = none)
    (bytes : List Byte) : exec (.readingReceived g bytes) s =
      .next (State.close s (s.endPoll g v (classifyReading v bytes))) := by
  simp only [exec, execReadingReceived, hv, hr, SweepEngine.awaitsReply, hs]
  rfl

theorem exec_answer {k : Nat} (hv : (s.sweep g).visit = some v) (hs : v.stage = .receiving)
    (hr : v.relay = some k) (bytes : List Byte) : exec (.relayAnswerReceived g bytes) s =
      .next (State.close s (s.endRelay g v k (classifyAnswer v bytes))) := by
  simp only [exec, execRelayAnswerReceived, hv, hr, SweepEngine.awaitsReply, hs]
  rfl

/-- Settles O48, by how the reception is judged and whether a COMMIT changed the slot. -/
theorem failedReadingDeliversNothing : Obligations.FailedReadingDeliversNothing := by
  intro s g v bytes hv hs hr hg b corrupt malformed
  have exec_eq := exec_reading hv hs hr bytes
  have failed (o : VisitOutcome) (hc : v.changed = false) (ho : classifyReading v bytes = .error o) :
      ∃ t, exec (.readingReceived g bytes) s = .next t ∧ s.TookOutcome t g v o id (s.sweep g).relays := by
    rw [ho, State.endPoll_error hc] at exec_eq
    exact ⟨_, exec_eq, State.close_tookOutcome o id _ hg⟩
  refine ⟨fun hc hb => failed .corrupt hc (classifyReading_corrupt ((crcFails_iff b).2 hb)),
    fun hc hb => failed .malformed hc (classifyReading_malformed (mt (crcFails_iff b).1 hb.1) hb.2),
    fun hc => ?_⟩
  rw [State.endPoll_changed hc] at exec_eq
  exact ⟨_, exec_eq, State.close_discardedOutcome⟩

/-- What a delivered relay does to a lane, as the statements write it (R6). -/
theorem relayTouched_ok (slot : Fin 64) (r : Relay) (accept : Bool) (l : Lane) :
    State.relayTouched slot r (.ok accept) l =
      if accept = true ∧ r.disturbs = true ∧ l.state ≠ .unbound ∧ ∃ c ∈ l.cells, c.ref.slot = slot then
        { l.emptied with state := if l.state = .steady then .moving else l.state }
      else l := by
  have hdelivered : (r.answer (.ok accept)).outcome = some .delivered ↔ accept = true := by
    cases accept <;> simp [Relay.answer]
  have hfed : l.fedBy slot = true ↔ ∃ c ∈ l.cells, c.ref.slot = slot := by simp [Lane.fedBy]
  simp only [State.relayTouched, Bool.and_eq_true, decide_eq_true_eq, hdelivered, hfed, and_assoc]
  by_cases hu : l.state = .unbound
  · simp [hu, Lane.disturb]
  · simp only [Lane.disturb_eq l hu, hu, ne_eq, not_false_eq_true, true_and]

/-- Settles O49: the relay in delivery takes the answer, or a failed attempt, and the node the outcome. -/
theorem relayAnswerEndsRelay : Obligations.RelayAnswerEndsRelay := by
  refine fun s g v hv hs hg => ⟨fun before after r hc hr hq ho hu => ⟨fun accept => ?_, fun bytes => ?_⟩,
    fun k bytes hc hr => ⟨_, exec_answer hv hs hr bytes, ?_⟩⟩
  · intro answer outcome bytes disturbed
    have exec_eq := exec_answer hv hs hr (shelfFrame bytes)
    have htouched : State.relayTouched v.slot r (.ok accept) = disturbed :=
      funext (relayTouched_ok v.slot r accept)
    have hanswer : r.answer (.ok accept) = { r with outcome := some outcome } := by
      cases accept <;> rfl
    rw [classifyAnswer_good, State.endRelay_eq hc hq ho hu, htouched, hanswer] at exec_eq
    exact ⟨_, exec_eq, State.close_tookOutcome .good disturbed _ hg⟩
  · intro b corrupt malformed
    have exec_eq := exec_answer hv hs hr bytes
    have failed (o : VisitOutcome) (hb : classifyAnswer v bytes = .error o) :
        ∃ t, exec (.relayAnswerReceived g bytes) s = .next t
          ∧ s.TookOutcome t g v o id (before ++ [r.attemptFailed] ++ after) := by
      rw [hb, State.endRelay_error hc hq ho hu] at exec_eq
      exact ⟨_, exec_eq, State.close_tookOutcome o id _ hg⟩
    exact ⟨fun hb => failed .corrupt (classifyAnswer_corrupt ((crcFails_iff b).2 hb)),
      fun hb => failed .malformed (classifyAnswer_malformed (mt (crcFails_iff b).1 hb.1) hb.2)⟩
  · rw [State.endRelay_changed hc]
    exact State.close_discardedOutcome

end Sys2Proof.Machine
end

section
/-! A good READING (O47), in the steps of R112: the node and the sequence, the bay key, the capture, the mirror,
and the relay that is sent next. -/

namespace Sys2Proof.Machine

/-! ### The lanes at each step -/

/-- A judgement finds no trigger where band, state and freeze causes are as they were (R66). -/
theorem Lane.judge_of_same {groups : Table Group 16} {now : Clock} {hold : Bool} {l k : Lane}
    (hband : k.band = l.band) (hstate : k.state = l.state)
    (hdeadline : k.replenishDeadline = l.replenishDeadline) : Lane.judge groups now hold hold l k = k := by
  by_cases hf : k.frozen hold = true
  · exact Lane.judge_of_frozen hf
  · have hfrozen : l.frozen hold = k.frozen hold := by simp only [Lane.frozen, hstate, hdeadline]
    refine Lane.judge_of_not_triggered fun ht => ?_
    rw [Lane.triggered_iff, hfrozen, hband, hstate] at ht
    rcases ht with ⟨hne, _⟩ | ⟨ht, _⟩ | ⟨hu, hb⟩
    · exact hne rfl
    · exact hf ht
    · rw [hu] at hb
      cases hb

/-- The bay key event reaches a lane that its node feeds (R113). -/
def Lane.pressed (now : Clock) (slot : Fin 64) (key : Bool) (l : Lane) : Lane :=
  if key = true ∧ l.fedBy slot = true then l.bayKey now else l

/-- The replenish deadline that the event gives; a later one is kept (R71). -/
def Lane.keyDeadline (now : Clock) (l : Lane) : Clock :=
  let new := now + BitVec.ofNat 32 (l.config.replenish * 1000)
  match l.replenishDeadline with
  | some old => if 0 < (old - new).toInt then old else new
  | none => new

theorem Lane.pressed_eq (now : Clock) (slot : Fin 64) (key : Bool) (l : Lane) : l.pressed now slot key =
    if key = true ∧ l.fedBy slot = true ∧ l.bound = true ∧ l.config.replenish ≠ 0 then
      { l with replenishDeadline := some (l.keyDeadline now), beaconLit := false }
    else l := by
  simp only [Lane.pressed, Lane.bayKey, ite_and, Bool.and_eq_true, bne_iff_ne]
  rfl

theorem Lane.pressed_cells (now : Clock) (slot : Fin 64) (key : Bool) (l : Lane) :
    (l.pressed now slot key).cells = l.cells := by
  rw [Lane.pressed_eq]
  split_ifs <;> rfl

theorem Lane.pressed_doubtful (now : Clock) (slot : Fin 64) (key : Bool) (l : Lane) (d : Bool) :
    ({ l with feedDoubtful := d } : Lane).pressed now slot key =
      { l.pressed now slot key with feedDoubtful := d } := by
  rw [Lane.pressed_eq, Lane.pressed_eq]
  by_cases h : key = true ∧ l.fedBy slot = true ∧ l.bound = true ∧ l.config.replenish ≠ 0
  · rw [if_pos h]
    exact if_pos h
  · rw [if_neg h]
    exact if_neg h

/-! ### A good outcome (R124, R129) -/

/-- A good probe leaves a CUT_OFF node as it is or returns it (R129). -/
theorem Node.probe_good_state (n : Node) :
    (n.probe .good).state = n.state ∨ (n.probe .good).state = .active := by
  simp only [Node.probe]
  split_ifs
  · exact .inr rfl
  · exact .inl rfl
  · exact .inl rfl

/-- A good outcome that changes the state of a node does not lose it. -/
theorem Node.judge_good_lost (n : Node) (limit : Nat) (auto : Bool)
    (h : (n.judge limit auto .good).state ≠ n.state) : (n.judge limit auto .good).state.lost = false := by
  by_cases hc : n.state = .cutOff
  · have hj : n.judge limit auto .good = n.probe .good := if_pos hc
    rw [hj] at h ⊢
    rw [n.probe_good_state.resolve_left h]
    rfl
  · have hj : n.judge limit auto .good = n.good := if_neg hc
    rw [hj]
    simp only [Node.good]
    split_ifs <;> rfl

namespace State

variable {s : State} {g : Segment} {v : Visit} {r : Reading}

/-- What a lane is told of a node that has taken a good outcome (R131, R10). -/
def laneTold (s : State) (slot : Fin 64) (l : Lane) : Lane :=
  if (s.judgedNode slot .good).state ≠ (s.nodes.get slot).state ∧ l.fedBy slot = true then
    l.doubted (s.nodes.set slot (s.judgedNode slot .good))
  else l

theorem laneTold_cells (slot : Fin 64) (l : Lane) : (s.laneTold slot l).cells = l.cells := by
  unfold laneTold
  split_ifs <;> rfl

theorem nodeOutcome_good (slot : Fin 64) : s.nodeOutcome slot .good = { s with
    nodes := s.nodes.set slot { s.judgedNode slot .good with
      statePending := (s.judgedNode slot .good).statePending
        || (s.judgedNode slot .good).state != (s.nodes.get slot).state }
    lanes := s.lanes.map (s.laneTold slot) } := by
  have hkept : ¬ ((s.judgedNode slot .good).state ≠ (s.nodes.get slot).state
      ∧ (s.judgedNode slot .good).state.lost = true) := fun ⟨hne, hlost⟩ => by
    rw [judgedNode, Node.judge_good_lost _ _ _ hne] at hlost
    cases hlost
  have htold (l : Lane) :
      (if (s.judgedNode slot .good).state ≠ (s.nodes.get slot).state ∧ l.fedBy slot = true then
        s.judge l ((if (s.judgedNode slot .good).state.lost = true then l.nodeLost else l).setDoubt
          (s.nodes.set slot { s.judgedNode slot .good with statePending := true }))
      else l) = s.laneTold slot l := by
    unfold laneTold
    split_ifs with hl hlost
    · exact absurd ⟨hl.1, hlost⟩ hkept
    · rw [Lane.setDoubt_eq, judge]
      refine (Lane.judge_of_same rfl rfl rfl).trans (Lane.doubted_congr (fun i => ?_) l)
      simp only [Table.get_set]
      split_ifs <;> rfl
    · rfl
  rw [nodeOutcome_eq, reportNode_eq, if_neg hkept]
  simp only [htold]
  generalize segmentOf slot = h
  cases h <;> rfl

/-! ### The steps of R112 -/

/-- After the node has taken its good outcome and the sequence is accepted. -/
def sequenceAccepted (s : State) (v : Visit) (r : Reading) : State :=
  let t := s.nodeOutcome v.slot .good
  { t with sequences := t.sequences.set v.slot (some r.sequence) }

/-- The node is not CUT_OFF once it has taken its good outcome. -/
def nodeUsable (s : State) (v : Visit) (r : Reading) : Bool :=
  ((s.sequenceAccepted v r).nodes.get v.slot).state != .cutOff

/-- The reading is taken: not stale, and of a node that is not CUT_OFF (R111, R112). -/
def readingTaken (s : State) (v : Visit) (r : Reading) : Bool :=
  s.nodeUsable v r && !(s.sequences.get v.slot == some r.sequence)

/-- The reading brings a bay key event (R113). -/
def keyPressed (s : State) (v : Visit) (r : Reading) : Bool := r.key && s.nodeUsable v r

/-- After the bay key step and the beacons that follow it. -/
def keyTaken (s : State) (v : Visit) (r : Reading) : State :=
  if s.keyPressed v r then ((s.sequenceAccepted v r).bayKeyEvent v.slot).refreshBeacons
  else s.sequenceAccepted v r

/-- After the capture step. -/
def cellsTaken (s : State) (v : Visit) (r : Reading) : State :=
  if s.readingTaken v r then (s.keyTaken v r).capture v.slot r.cells else s.keyTaken v r

/-- After the mirror step. -/
def readingMirrored (s : State) (g : Segment) (v : Visit) (r : Reading) : State :=
  let t := s.cellsTaken v r
  if s.readingTaken v r && v.mirror then
    { t with backbone := { t.backbone with mirror := some (mirrorPayload t.now g v r) } }
  else t

/-- A good reading is these steps, and then its relay step. -/
theorem goodReading_eq : s.goodReading g v r = (s.readingMirrored g v r).relayStep g v := by
  unfold goodReading readingMirrored cellsTaken keyTaken keyPressed readingTaken nodeUsable sequenceAccepted
  rfl

theorem sequenceAccepted_eq : s.sequenceAccepted v r = { s with
    nodes := s.nodes.set v.slot { s.judgedNode v.slot .good with
      statePending := (s.judgedNode v.slot .good).statePending
        || (s.judgedNode v.slot .good).state != (s.nodes.get v.slot).state }
    lanes := s.lanes.map (s.laneTold v.slot)
    sequences := s.sequences.set v.slot (some r.sequence) } := by
  rw [sequenceAccepted, nodeOutcome_good]

theorem nodeUsable_eq : s.nodeUsable v r = ((s.judgedNode v.slot .good).state != .cutOff) := by
  rw [nodeUsable, sequenceAccepted_eq, Table.get_set_self]

/-- A lane after the bay key step. -/
def laneKeyed (s : State) (v : Visit) (r : Reading) (l : Lane) : Lane :=
  (s.laneTold v.slot l).pressed s.now v.slot (s.keyPressed v r)

theorem keyTaken_eq : s.keyTaken v r = { s.sequenceAccepted v r with
    lanes := s.lanes.map (s.laneKeyed v r)
    notice := { s.notice with beacons := (s.keyTaken v r).notice.beacons } } := by
  have hlanes : s.lanes.map (s.laneKeyed v r) = if s.keyPressed v r then
      (s.lanes.map (s.laneTold v.slot)).map (fun l => if l.fedBy v.slot then l.bayKey s.now else l)
      else s.lanes.map (s.laneTold v.slot) := by
    refine Table.ext_get fun m => ?_
    cases hk : s.keyPressed v r <;> simp [laneKeyed, Lane.pressed, hk]
  rw [hlanes, keyTaken, sequenceAccepted_eq]
  split_ifs <;> rfl

/-- A lane after the capture step. -/
def laneCaptured (s : State) (v : Visit) (r : Reading) (l : Lane) : Lane :=
  if s.readingTaken v r = true then
    s.agreed (s.laneKeyed v r l) ((s.laneKeyed v r l).capture (s.sequenceAccepted v r).nodes
      s.active.calibration v.slot r.cells)
  else s.laneKeyed v r l

theorem cellsTaken_eq : s.cellsTaken v r = { s.keyTaken v r with
    lanes := s.lanes.map (s.laneCaptured v r) } := by
  have hlanes : s.lanes.map (s.laneCaptured v r) = if s.readingTaken v r then
      (s.lanes.map (s.laneKeyed v r)).map (fun l => s.agreed l (l.capture (s.sequenceAccepted v r).nodes
        s.active.calibration v.slot r.cells))
      else s.lanes.map (s.laneKeyed v r) := by
    refine Table.ext_get fun m => ?_
    cases ht : s.readingTaken v r <;> simp [laneCaptured, ht]
  rw [hlanes, cellsTaken, keyTaken_eq, sequenceAccepted_eq]
  split_ifs <;> rfl

/-- What the steps before the relay step leave, field by field. -/
theorem readingMirrored_eq : s.readingMirrored g v r = { s.sequenceAccepted v r with
    backbone := { s.backbone with
      mirror := if s.readingTaken v r = true ∧ v.mirror = true then some (mirrorPayload s.now g v r)
        else s.backbone.mirror }
    lanes := s.lanes.map (s.laneCaptured v r)
    notice := { s.notice with beacons := (s.keyTaken v r).notice.beacons } } := by
  simp only [← Bool.and_eq_true]
  rw [readingMirrored, cellsTaken_eq, keyTaken_eq, sequenceAccepted_eq]
  split_ifs <;> rfl

/-! ### The relay step (R116) -/

theorem relayStep_eq (s : State) (g : Segment) (v : Visit) :
    s.relayStep g v = s.setSweep g ((s.relayStep g v).sweep g) := by
  unfold relayStep
  split
  · split_ifs
    · rw [endVisit_sweep]; rfl
    · rw [setVisit_sweep]; rfl
  · rw [endVisit_sweep]; rfl

theorem relayStep_relays (s : State) (g : Segment) (v : Visit) :
    ((s.relayStep g v).sweep g).relays = (s.sweep g).relays := by
  unfold relayStep
  split
  · split_ifs <;> simp
  · simp

/-- The open relays of a queue for an address (R116). -/
def openFor (address : BitVec 6) (rs : List Relay) : List Relay :=
  rs.filter (fun r => r.isOpen && r.address == address)

theorem mem_openFor {address : BitVec 6} {rs : List Relay} {r : Relay} :
    r ∈ openFor address rs ↔ r ∈ rs ∧ r.outcome = none ∧ r.address = address := by
  simp [openFor, Relay.isOpen]

theorem oldestOpen_of_none {address : BitVec 6} {rs : List Relay}
    (h : ∀ r ∈ rs, r.outcome = none → r.address ≠ address) : oldestOpen address rs = none := by
  have hnil : openFor address rs = [] := List.eq_nil_iff_forall_not_mem.2 fun r hr =>
    have ⟨hm, ho, ha⟩ := mem_openFor.1 hr
    h r hm ho ha
  exact congrArg (best _) hnil

theorem oldestOpen_of_first {address : BitVec 6} {rs : List Relay} {r : Relay} (hr : r ∈ rs)
    (ho : r.outcome = none) (ha : r.address = address)
    (hfirst : ∀ q ∈ rs, q.outcome = none → q.address = address → q ≠ r → r.acceptance < q.acceptance) :
    oldestOpen address rs = some r := by
  have hmem : r ∈ openFor address rs := mem_openFor.2 ⟨hr, ho, ha⟩
  obtain ⟨m, hm⟩ := best_isSome (ahead := fun a b : Relay => a.acceptance < b.acceptance)
    (List.ne_nil_of_mem hmem)
  have decides : Decides (fun a b : Relay => a.acceptance < b.acceptance)
      (fun a b => a.acceptance ≤ b.acceptance) (openFor address rs) :=
    { refl := fun _ _ => Nat.le_refl _
      trans := fun _ _ _ _ _ _ => Nat.le_trans
      yes := fun _ _ _ _ h => Nat.le_of_lt (of_decide_eq_true h)
      no := fun _ _ _ _ h => Nat.not_lt.1 (of_decide_eq_false h) }
  have hle : m.acceptance ≤ r.acceptance := best_first decides hm r hmem
  obtain ⟨hmr, hmo, hma⟩ := mem_openFor.1 (best_mem hm)
  have he : m = r := by
    by_contra hne
    exact Nat.not_lt.2 hle (hfirst m hmr hmo hma hne)
  exact hm.trans (congrArg some he)

theorem relayStep_ends (h : (s.nodes.get v.slot).state = .cutOff
      ∨ ∀ r ∈ (s.sweep g).relays, r.outcome = none → r.address ≠ v.address) :
    s.relayStep g v = s.endVisit g v := by
  unfold relayStep
  split
  next r hr =>
    rcases h with hc | hn
    · rw [if_pos hc]
    · rw [oldestOpen_of_none hn] at hr
      cases hr
  next => rfl

theorem relayStep_sends {r : Relay} (hc : (s.nodes.get v.slot).state ≠ .cutOff)
    (hr : oldestOpen v.address (s.sweep g).relays = some r) :
    s.relayStep g v = s.setVisit g (some { v with
      relay := some r.acceptance
      frame := relayFrame v.address r.message
      stage := sendStage (s.sweep g) }) := by
  unfold relayStep
  rw [hr]
  exact if_neg hc

/-! ### The beacons over the two steps (R96) -/

theorem laneKeyed_beacon (l : Lane) :
    (s.laneKeyed v r l).beaconLit = (l.pressed s.now v.slot (s.keyPressed v r)).beaconLit
      ∧ (s.laneKeyed v r l).config = (l.pressed s.now v.slot (s.keyPressed v r)).config := by
  have htold : s.laneTold v.slot l = { l with feedDoubtful := (s.laneTold v.slot l).feedDoubtful } := by
    unfold laneTold
    split_ifs <;> rfl
  rw [laneKeyed, htold, Lane.pressed_doubtful]
  exact ⟨rfl, rfl⟩

theorem keyTaken_flashing (hk : s.keyPressed v r = true) (ho : s.notice.output = .on) (b : Fin 4) :
    ((s.keyTaken v r).notice.beacons.get b).isFlashing = true ↔
      ∃ m : Fin 128, let l := (s.lanes.get m).pressed s.now v.slot (s.keyPressed v r)
        l.beaconLit = true ∧ (s.notice.groups.get l.config.group).beacon = b
          ∧ 4 ≤ (s.notice.groups.get l.config.group).priority := by
  have follow : (s.keyTaken v r).BeaconsFollow := by
    rw [keyTaken, if_pos hk]
    exact refreshBeacons_follow _
  have hoff : (s.keyTaken v r).notice.output = s.notice.output := by rw [keyTaken_eq]
  have hdemand : (s.keyTaken v r).demanded b 4 ↔ ∃ m : Fin 128,
      let l := (s.lanes.get m).pressed s.now v.slot (s.keyPressed v r)
      l.beaconLit = true ∧ (s.notice.groups.get l.config.group).beacon = b
        ∧ 4 ≤ (s.notice.groups.get l.config.group).priority := by
    have hlane (m : Fin 128) : (s.keyTaken v r).lanes.get m = s.laneKeyed v r (s.lanes.get m) := by
      rw [keyTaken_eq, Table.get_map]
    have hgroups : (s.keyTaken v r).notice.groups = s.notice.groups := by rw [keyTaken_eq]
    simp only [demanded, hlane, hgroups, laneKeyed_beacon]
  rw [(follow b).2, hoff, hdemand]
  exact and_iff_right ho

theorem keyTaken_rhythm : rhythmKept s.notice.beacons (s.keyTaken v r).notice.beacons := by
  have hnotice : (s.sequenceAccepted v r).notice = s.notice := by rw [sequenceAccepted_eq]
  unfold keyTaken
  split_ifs
  · have := refreshBeacons_rhythm ((s.sequenceAccepted v r).bayKeyEvent v.slot)
    rwa [show ((s.sequenceAccepted v r).bayKeyEvent v.slot).notice = s.notice from hnotice] at this
  · rw [hnotice]
    intro b hb
    rw [if_pos hb]

end State

/-! ### A lane that a reading reaches (R33, R34, R8) -/

/-- What a reading makes of a lane that it carries a cell of, before the lane is judged. -/
def Lane.sampled (nodes : Table Node 64) (calibration : Table Calibration 256) (slot : Fin 64)
    (raws : List RawCell) (l : Lane) : Lane :=
  let k := { l with cells := l.cells.map (LaneCell.capture calibration slot raws) }
  if ∀ c ∈ k.cells, c.fresh = true then
    Lane.takeSample nodes k.sampleSum k.sampleValid
      { k with cells := k.cells.map (fun c => { c with fresh := false }) }
  else k

theorem Lane.capture_received {nodes : Table Node 64} {calibration : Table Calibration 256} {slot : Fin 64}
    {raws : List RawCell} {l : Lane} (h : ∃ c ∈ l.cells, c.ref.slot = slot ∧ c.ref.cell.val < raws.length) :
    l.capture nodes calibration slot raws = l.sampled nodes calibration slot raws := by
  have hreceives : l.receives slot raws = true := by simpa [Lane.receives] using h
  have hcells : l.cells ≠ [] := by
    rintro hnil
    simp [hnil] at h
  simp only [Lane.capture, hreceives, if_true, Lane.sampled]
  refine if_congr ?_ rfl rfl
  simp [Lane.sampleComplete, hcells]

theorem Lane.capture_of_not_received {nodes : Table Node 64} {calibration : Table Calibration 256}
    {slot : Fin 64} {raws : List RawCell} {l : Lane}
    (h : ¬ ∃ c ∈ l.cells, c.ref.slot = slot ∧ c.ref.cell.val < raws.length) :
    l.capture nodes calibration slot raws = l := by
  have hreceives : ¬ l.receives slot raws = true := by simpa [Lane.receives] using h
  exact if_neg hreceives

/-- Only the states of the nodes decide what a lane does with a sample. -/
theorem Lane.takeSample_congr {nodes nodes' : Table Node 64}
    (h : ∀ i, (nodes'.get i).state = (nodes.get i).state) (sum : Int) (valid : Bool) (l : Lane) :
    l.takeSample nodes' sum valid = l.takeSample nodes sum valid := by
  have hlost : l.feedLost nodes' = l.feedLost nodes := by simp only [Lane.feedLost, h]
  rw [Lane.takeSample, hlost]
  rfl

theorem Lane.sampled_congr {nodes nodes' : Table Node 64}
    (h : ∀ i, (nodes'.get i).state = (nodes.get i).state) (calibration : Table Calibration 256)
    (slot : Fin 64) (raws : List RawCell) (l : Lane) :
    l.sampled nodes' calibration slot raws = l.sampled nodes calibration slot raws := by
  simp only [Lane.sampled, Lane.takeSample_congr h]

theorem State.laneCaptured_eq (s : State) (v : Visit) (r : Reading) (l : Lane) : s.laneCaptured v r l =
    if s.readingTaken v r = true
        ∧ ∃ c ∈ l.cells, c.ref.slot = v.slot ∧ c.ref.cell.val < r.cells.length then
      s.agreed (s.laneKeyed v r l) ((s.laneKeyed v r l).sampled (s.sequenceAccepted v r).nodes
        s.active.calibration v.slot r.cells)
    else s.laneKeyed v r l := by
  have hcells : (s.laneKeyed v r l).cells = l.cells := by
    rw [State.laneKeyed, Lane.pressed_cells, State.laneTold_cells]
  unfold State.laneCaptured
  rw [← hcells]
  by_cases hreceived : ∃ c ∈ (s.laneKeyed v r l).cells, c.ref.slot = v.slot
      ∧ c.ref.cell.val < r.cells.length
  · rw [Lane.capture_received hreceived]
    exact if_congr (and_iff_left hreceived).symm rfl rfl
  · rw [Lane.capture_of_not_received hreceived]
    exact (ite_eq_right_iff.2 fun _ => Lane.judge_of_same rfl rfl rfl).trans
      (if_neg fun h => hreceived h.2).symm

end Sys2Proof.Machine
end

section
/-! A good READING (O47), continued: its frame, and what its steps leave in each field. -/

namespace Sys2Proof.Machine

/-! ### The frame of a READING (Table 8-10) -/

/-- The bytes of one cell. -/
def cellBytes (c : BitVec 24 × CellStatus) : List Byte := be3 c.1.toNat ++ [byteOf c.2.code]

/-- The value and the status that they report. -/
def cellReported (c : BitVec 24 × CellStatus) : RawCell := ⟨c.1.toInt, c.2⟩

/-- A READING of the visited node, without its CRC-8. -/
def readingBody (v : Visit) (sequence flags : Byte) (raws : List (BitVec 24 × CellStatus)) : List Byte :=
  [v.address.setWidth 8, 0x22, sequence, flags, byteOf v.cellCount] ++ raws.flatMap cellBytes

theorem length_flatMap_cellBytes (raws : List (BitVec 24 × CellStatus)) :
    (raws.flatMap cellBytes).length = 4 * raws.length := by
  induction raws with
  | nil => rfl
  | cons c rest ih =>
    rw [List.flatMap_cons, List.length_append, ih, List.length_cons]
    simp only [cellBytes, List.length_append, be3_length, List.length_singleton]
    omega

theorem CellStatus.ofCode_byteOf (x : CellStatus) : CellStatus.ofCode (byteOf x.code).toNat = some x := by
  cases x <;> rfl

theorem rawCells_flatMap_cellBytes (raws : List (BitVec 24 × CellStatus)) :
    rawCells (raws.flatMap cellBytes) = some (raws.map cellReported) := by
  induction raws with
  | nil => rfl
  | cons c rest ih =>
    have hvalue : BitVec.ofNat 24 (natOf (be3 c.1.toNat)) = c.1 := ofNat_natOf_be3 c.1
    simp only [be3] at hvalue
    simp only [List.flatMap_cons, cellBytes, be3, List.cons_append, List.nil_append, rawCells,
      CellStatus.ofCode_byteOf, hvalue]
    rw [show List.flatMap _ rest = rest.flatMap cellBytes from rfl, ih]
    rfl

theorem classifyReading_good {v : Visit} (sequence flags : Byte) {raws : List (BitVec 24 × CellStatus)}
    (hl : raws.length = v.cellCount) (h4 : v.cellCount ≤ 4) :
    classifyReading v (shelfFrame (readingBody v sequence flags raws)) =
      .ok ⟨sequence, flags.getLsbD 0, raws.map cellReported⟩ := by
  have hbody : (readingBody v sequence flags raws).length = 5 + 4 * v.cellCount := by
    rw [readingBody, List.length_append, length_flatMap_cellBytes, hl]
    rfl
  have hframe : (shelfFrame (readingBody v sequence flags raws)).length = 6 + 4 * v.cellCount := by
    rw [shelfFrame, List.length_append, hbody, List.length_singleton]
    omega
  have hcut : (shelfFrame (readingBody v sequence flags raws)).take 32 =
      shelfFrame (readingBody v sequence flags raws) := List.take_of_length_le (by omega)
  have hcrc : ¬ crcFails (shelfFrame (readingBody v sequence flags raws)) = true := by
    rw [crcFails_shelfFrame (by omega)]
    exact nofun
  have hcount : (byteOf v.cellCount).toNat = v.cellCount := toNat_byteOf (by omega)
  have hcells : ((shelfFrame (readingBody v sequence flags raws)).drop 5).dropLast =
      raws.flatMap cellBytes := by
    rw [shelfFrame, readingBody, List.append_assoc]
    exact List.dropLast_concat
  have hbytes : byteAt (shelfFrame (readingBody v sequence flags raws)) 4 = v.cellCount := hcount
  simp only [classifyReading, Config.shelfCut, hcut, if_neg hcrc, hbytes, hframe, hcells,
    rawCells_flatMap_cellBytes, bne_self_eq_false]
  simp [shelfFrame, readingBody, kindReading]

theorem mirrorPayload_eq (now : Clock) (g : Segment) (v : Visit) (sequence : Byte) (key : Bool)
    (raws : List (BitVec 24 × CellStatus)) :
    mirrorPayload now g v ⟨sequence, key, raws.map cellReported⟩ = be4 now.toNat
      ++ [byteOf v.slot.val, byteOf g.code, v.address.setWidth 8, sequence, yesByte key, byteOf raws.length]
      ++ raws.flatMap cellBytes := by
  simp only [mirrorPayload, List.length_map, List.flatMap_map, cellReported, BitVec.ofInt_toInt]
  rfl

/-- The cells of a lane take their values as the statements write it (R33). -/
theorem LaneCell.capture_reported (calibration : Table Calibration 256) (slot : Fin 64)
    (raws : List (BitVec 24 × CellStatus)) (c : LaneCell) :
    c.capture calibration slot (raws.map cellReported) =
      if c.ref.slot = slot then
        match raws[c.ref.cell.val]? with
        | some x => { c with
            fresh := true
            value := some (convert (calibration.get (calibrationIndex c.ref)) ⟨x.1.toInt, x.2⟩) }
        | none => c
      else c := by
  unfold LaneCell.capture
  rw [List.getElem?_map]
  cases raws[c.ref.cell.val]? <;> rfl

namespace State

variable {s : State} {g : Segment} {v : Visit} {r : Reading}

/-! ### What the steps leave, field by field -/

theorem goodReading_frame : s.goodReading g v r = ({ s with
    backbone := { s.backbone with
      mirror := if s.readingTaken v r = true ∧ v.mirror = true then some (mirrorPayload s.now g v r)
        else s.backbone.mirror }
    nodes := (s.sequenceAccepted v r).nodes
    lanes := s.lanes.map (s.laneCaptured v r)
    sequences := s.sequences.set v.slot (some r.sequence)
    notice := { s.notice with beacons := (s.keyTaken v r).notice.beacons } } : State).setSweep g
      ((s.goodReading g v r).sweep g) := by
  conv_lhs => rw [goodReading_eq, relayStep_eq, ← goodReading_eq, readingMirrored_eq]
  rw [sequenceAccepted_eq]

theorem goodReading_node (i : Fin 64) : (s.goodReading g v r).nodes.get i =
    if v.slot = i then { s.judgedNode v.slot .good with
      statePending := (s.nodes.get v.slot).statePending
        || (s.judgedNode v.slot .good).state != (s.nodes.get v.slot).state }
    else s.nodes.get i := by
  have hpending : (s.judgedNode v.slot .good).statePending = (s.nodes.get v.slot).statePending :=
    Node.judge_statePending _ _ _ _
  rw [goodReading_frame, setSweep_nodes, sequenceAccepted_eq, Table.get_set, hpending]

theorem goodReading_lane (m : Fin 128) :
    (s.goodReading g v r).lanes.get m = s.laneCaptured v r (s.lanes.get m) := by
  rw [goodReading_frame, setSweep_lanes, Table.get_map]

theorem goodReading_state (i : Fin 64) : ((close s (s.goodReading g v r)).nodes.get i).state =
    ((s.sequenceAccepted v r).nodes.get i).state := by
  rw [close_node, Node.settleDue_state, goodReading_frame, setSweep_nodes]

theorem goodReading_notice : (s.goodReading g v r).notice =
    { s.notice with beacons := (s.keyTaken v r).notice.beacons } := by
  rw [goodReading_frame, setSweep_notice]

theorem readingMirrored_sweep (h : Segment) : (s.readingMirrored g v r).sweep h = s.sweep h := by
  rw [readingMirrored_eq, sequenceAccepted_eq]
  cases h <;> rfl

theorem readingMirrored_active : (s.readingMirrored g v r).active = s.active := by
  rw [readingMirrored_eq, sequenceAccepted_eq]

theorem readingMirrored_state :
    ((s.readingMirrored g v r).nodes.get v.slot).state = (s.judgedNode v.slot .good).state := by
  rw [readingMirrored_eq, sequenceAccepted_eq, Table.get_set_self]

theorem goodReading_sweep_ne {h : Segment} (hne : h ≠ g) : (s.goodReading g v r).sweep h = s.sweep h := by
  rw [goodReading_eq, relayStep_eq, setSweep_sweep_ne _ _ (Ne.symm hne), readingMirrored_sweep]

theorem goodReading_relays : ((s.goodReading g v r).sweep g).relays = (s.sweep g).relays := by
  rw [goodReading_eq, relayStep_relays, readingMirrored_sweep]

/-- With no relay to send, or none to be carried, the sweep moves on (R116, R129). -/
theorem goodReading_movedOn (h : (s.judgedNode v.slot .good).state = .cutOff
      ∨ ∀ r ∈ (s.sweep g).relays, r.outcome = none → r.address ≠ v.address) :
    SweepEngine.MovedOn s.active g v.slot (s.sweep g) ((s.goodReading g v r).sweep g) := by
  rw [goodReading_eq, relayStep_ends, endVisit_sweep, readingMirrored_sweep, readingMirrored_active]
  · exact SweepEngine.endVisit_movedOn _ _ _ _
  · rwa [readingMirrored_state, readingMirrored_sweep]

/-- The oldest open relay for the node is sent in the same visit (R116). -/
theorem goodReading_sends {x : Relay} (hc : (s.judgedNode v.slot .good).state ≠ .cutOff)
    (hx : oldestOpen v.address (s.sweep g).relays = some x) :
    (s.goodReading g v r).sweep g = { s.sweep g with visit := some { v with
      relay := some x.acceptance
      frame := relayFrame v.address x.message
      stage := sendStage (s.sweep g) } } := by
  rw [goodReading_eq, relayStep_sends (readingMirrored_state.trans_ne hc)
    (by rw [readingMirrored_sweep]; exact hx), setVisit_sweep, readingMirrored_sweep]

/-- A beacon keeps its rhythm exactly where the bay key step left it demanded flashing (R96, log 26). -/
theorem goodReading_rhythm {b : Fin 4}
    (hb : ((close s (s.goodReading g v r)).notice.beacons.get b).isFlashing = true) :
    (close s (s.goodReading g v r)).notice.beacons.get b =
      if (s.notice.beacons.get b).isFlashing = true ∧ (s.keyPressed v r = true → ∃ m : Fin 128,
          let l := (s.lanes.get m).pressed s.now v.slot (s.keyPressed v r)
          l.beaconLit = true ∧ (s.notice.groups.get l.config.group).beacon = b
            ∧ 4 ≤ (s.notice.groups.get l.config.group).priority)
      then s.notice.beacons.get b else .flashing true 0 := by
  have hon : s.notice.output = .on := by
    have houtput : (close s (s.goodReading g v r)).notice.output = s.notice.output := by
      rw [close_notice, goodReading_notice]
    rw [← houtput]
    exact ((close_follow s (s.goodReading g v r) b).2.1 hb).1
  have hclosed := close_rhythm s (s.goodReading g v r) b hb
  rw [goodReading_notice] at hclosed
  rw [hclosed]
  cases hk : s.keyPressed v r with
  | false =>
    have hsame : (s.keyTaken v r).notice.beacons = s.notice.beacons := by
      rw [keyTaken, hk, if_neg nofun, sequenceAccepted_eq]
    simp [hsame]
  | true =>
    have hflash := keyTaken_flashing hk hon b
    rw [hk] at hflash
    simp only [forall_const, ← hflash]
    by_cases hf : ((s.keyTaken v r).notice.beacons.get b).isFlashing = true
    · rw [if_pos hf]
      exact (keyTaken_rhythm b hf).trans (if_congr (and_iff_left hf).symm rfl rfl)
    · rw [if_neg hf, if_neg (fun h => hf h.2)]

/-- What a lane is told of its feed goes by the nodes as the event leaves them (R10). -/
theorem goodReading_told (l : Lane) : s.laneTold v.slot l =
    if (s.judgedNode v.slot .good).state ≠ (s.nodes.get v.slot).state ∧ l.fedBy v.slot = true then
      l.doubted (close s (s.goodReading g v r)).nodes
    else l := by
  have hstate (i : Fin 64) : ((close s (s.goodReading g v r)).nodes.get i).state =
      ((s.nodes.set v.slot (s.judgedNode v.slot .good)).get i).state := by
    rw [goodReading_state, sequenceAccepted_eq, Table.get_set, Table.get_set]
    split_ifs <;> rfl
  rw [laneTold, Lane.doubted_congr hstate]

/-- Beside the mirror slot and the accepted sequence, a good reading touches what an outcome touches. -/
theorem goodReading_sameButOutcome :
    ({ s with backbone := (close s (s.goodReading g v r)).backbone
              sequences := s.sequences.set v.slot (some r.sequence) } : State).SameButOutcome g
      (close s (s.goodReading g v r)) := by
  refine sameButOutcome_of ?_ rfl ?_ ?_ ?_ ?_ ?_ ?_ fun h hne => ?_
  · rw [close_pending, goodReading_frame, setSweep_pending]
  · rw [close_mgmt, goodReading_frame, setSweep_mgmt]
  · rw [close_staged, goodReading_frame, setSweep_staged]
  · rw [close_active, goodReading_frame, setSweep_active]
  · rw [close_sequences, goodReading_frame, setSweep_sequences]
  · rw [close_nextAcceptance, goodReading_frame, setSweep_nextAcceptance]
  · refine (close_notice _ _).trans ?_
    rw [goodReading_notice]
  · rw [close_sweep, goodReading_sweep_ne hne]
    cases h <;> rfl

end State

/-- Settles O47: the frame is classified, and each field is read off the steps of R112. -/
theorem goodReadingIsHandedOn : Obligations.GoodReadingIsHandedOn := by
  intro s g v sequence flags raws hv hs hr hc hl h4 _ _ _ _ usable taken key mirror _ _ pressed stored
  let r : Reading := ⟨sequence, flags.getLsbD 0, raws.map cellReported⟩
  have exec_eq : exec (.readingReceived g (shelfFrame (readingBody v sequence flags raws))) s =
      .next (State.close s (s.goodReading g v r)) := by
    have hx := exec_reading hv hs hr (shelfFrame (readingBody v sequence flags raws))
    rwa [classifyReading_good sequence flags hl h4, State.endPoll, hc] at hx
  have husable : s.nodeUsable v r = usable := State.nodeUsable_eq
  have htaken : s.readingTaken v r = taken := by rw [State.readingTaken, husable]; rfl
  have hkey : s.keyPressed v r = key := by rw [State.keyPressed, husable]; exact Bool.and_comm _ _
  have hpressed (l : Lane) : l.pressed s.now v.slot key = pressed l := Lane.pressed_eq s.now v.slot key l
  have hstored (c : LaneCell) : c.capture s.active.calibration v.slot r.cells = stored c :=
    LaneCell.capture_reported s.active.calibration v.slot raws c
  have hcells : r.cells.length = raws.length := List.length_map _
  have hmirror : mirrorPayload s.now g v r = mirror := by
    rw [mirrorPayload_eq, hl]
    rfl
  have hnow : (s.goodReading g v r).now = s.backbone.clock := by
    rw [State.now, State.goodReading_frame, State.setSweep_backbone]
  refine ⟨_, exec_eq, State.goodReading_sameButOutcome, ?_, fun i hi => ?_, ?_, fun m => ?_,
    State.close_follow _ _, fun b hb => ?_, ?_, fun h => ?_, fun x hx hn ho ha hfirst => ?_⟩
  · rw [State.close_backbone, State.goodReading_frame, State.setSweep_backbone, htaken, hmirror]
  · rw [State.close_node, State.goodReading_node, if_neg (Ne.symm hi), Node.settleDue_self]
  · rw [State.close_node, State.goodReading_node, if_pos rfl, hnow]
    rfl
  · intro l reported keyed captured sum valid sampled
    have hreported : s.laneTold v.slot l = reported := State.goodReading_told l
    have hkeyed : s.laneKeyed v r l = keyed := by rw [State.laneKeyed, hreported, hkey, hpressed]
    have hsampled : keyed.sampled (s.sequenceAccepted v r).nodes s.active.calibration v.slot r.cells =
        sampled := by
      rw [← Lane.sampled_congr (State.goodReading_state (s := s) (g := g)), Lane.sampled,
        funext hstored]
      rfl
    rw [State.close_lane, State.goodReading_lane, hnow, State.laneCaptured_eq, hkeyed, hsampled, hcells, htaken]
  · have rhythm := State.goodReading_rhythm hb
    rw [hkey] at rhythm
    simp only [hpressed] at rhythm
    exact rhythm
  · rw [State.close_sweep, State.goodReading_relays]
  · rw [State.close_sweep]
    exact State.goodReading_movedOn h
  · rw [State.close_sweep]
    exact State.goodReading_sends hn (State.oldestOpen_of_first hx ho ha hfirst)

end Sys2Proof.Machine
end

section
/-! READ NODE (O23) and RELEASE NODE (O24): the two requests, and what a node's return to ACTIVE changes. -/

namespace Sys2Proof.Machine

namespace State

variable {s : State} {tag : Byte}

/-! ### The requests -/

theorem exec_readNode (h : s.TakesAtOnce) (slot : Byte) : exec (.readNode tag [slot]) s =
    .next (reply tag .readNode (s.requestReadNode [0x30, slot])) :=
  exec_command_fits (fields := [slot]) h .readNode nofun rfl

theorem exec_releaseNode (h : s.TakesAtOnce) (slot : Byte) : exec (.releaseNode tag [slot]) s =
    .next (reply tag .releaseNode (s.requestReleaseNode [0x31, slot])) :=
  exec_command_fits (fields := [slot]) h .releaseNode nofun rfl

theorem requestReadNode_slot (b : Byte) (slot : Fin 64) : s.requestReadNode [b, byteOf slot.val] =
    ⟨.done, s.nodeFields slot, s.setNode slot { s.nodes.get slot with
      corruptSeen := false, malformedSeen := false, missedSeen := false }⟩ := by
  simp only [requestReadNode, byteAt_succ, byteAt_zero, index_byteOf slot (by decide)]

theorem requestReadNode_no_slot {b slot : Byte} (h : 63 < slot.toNat) :
    s.requestReadNode [b, slot] = s.refuse .noSuch := by
  simp only [requestReadNode, byteAt_succ, byteAt_zero, index_of_le (Nat.succ_le_of_lt h)]

theorem requestReleaseNode_slot (b : Byte) (slot : Fin 64) :
    s.requestReleaseNode [b, byteOf slot.val] = (close s (s.releaseNode slot)).done := by
  simp only [requestReleaseNode, byteAt_succ, byteAt_zero, index_byteOf slot (by decide)]

theorem requestReleaseNode_no_slot {b slot : Byte} (h : 63 < slot.toNat) :
    s.requestReleaseNode [b, slot] = s.refuse .noSuch := by
  simp only [requestReleaseNode, byteAt_succ, byteAt_zero, index_of_le (Nat.succ_le_of_lt h)]

/-! ### The closing of an event over beacons that follow -/

/-- An event that closes over beacons that follow the lit lanes leaves them as they are (R96). -/
theorem close_of_follow {before after : State} (h : after.BeaconsFollow) :
    close before after = { after with
      nodes := (close before after).nodes
      lanes := (close before after).lanes
      notice := { after.notice with
        queue := (close before after).notice.queue
        deferred := (close before after).notice.deferred
        nextAdmission := (close before after).notice.nextAdmission } } := by
  have settled_follow : (dueSettled before after).BeaconsFollow :=
    h.congr rfl (fun _ _ => demanded_congr rfl fun n => by
      rw [dueSettled, Table.get_zipWith, Lane.settleDue_record]
      exact ⟨rfl, rfl⟩) fun _ => ⟨Iff.rfl, rfl⟩
  have frame := settleNotices_frame before after
  have closed : close before after = settleNotices before after :=
    refreshBeacons_of_follow _ (frame.follow settled_follow)
  rw [closed]
  unfold SameButQueue at frame
  rw [frame]
  rfl

/-! ### RELEASE NODE on each node (R130) -/

/-- Slot `slot` holds record `k` with STATE pending, and the lanes it feeds are told of it (R131, R10). -/
def nodeReported (s : State) (slot : Fin 64) (k : Node) : State :=
  { s with
    nodes := s.nodes.set slot { k with statePending := true }
    lanes := s.lanes.map fun l =>
      if l.fedBy slot then l.doubted (s.nodes.set slot { k with statePending := true }) else l }

/-- A change to a state that is not lost blinds no lane and ends no relay (R131). -/
theorem reportNode_of_kept {slot : Fin 64} {k : Node} (hne : k.state ≠ (s.nodes.get slot).state)
    (hlost : k.state.lost = false) : s.reportNode slot k = s.nodeReported slot k := by
  have told (l : Lane) (nodes : Table Node 64) : s.judge l (l.setDoubt nodes) = l.doubted nodes := by
    rw [Lane.setDoubt_eq]
    exact Lane.judge_of_same rfl rfl rfl
  simp [reportNode, nodeReported, hne, hlost, told]

/-- A report to lanes that stay as lit as they were leaves the beacons following. -/
theorem nodeReported_follow {slot : Fin 64} {k : Node} (h : s.BeaconsFollow) :
    (s.nodeReported slot k).BeaconsFollow :=
  h.congr rfl (fun _ _ => demanded_congr rfl fun n => by
    rw [nodeReported, Table.get_map]
    split_ifs <;> exact ⟨rfl, rfl⟩) fun _ => ⟨Iff.rfl, rfl⟩

theorem releaseNode_returned {slot : Fin 64} (hs : (s.nodes.get slot).state = .cutOff)
    (hr : (s.nodes.get slot).probeRun = 64) :
    s.releaseNode slot = s.nodeReported slot (s.nodes.get slot).returnActive := by
  have reported : s.releaseNode slot = s.reportNode slot (s.nodes.get slot).returnActive :=
    (if_pos hs).trans (if_pos hr)
  rw [reported, reportNode_of_kept (by rw [hs]; nofun) rfl]

/-! ### The closed event -/

/-- The closing of a report changes no node's state. -/
theorem close_nodeReported_state (slot i : Fin 64) (k : Node) :
    ((close s (s.nodeReported slot k)).nodes.get i).state =
      ((s.nodes.set slot { k with statePending := true }).get i).state := by
  rw [close_node, Node.settleDue_state]
  rfl

theorem close_nodeReported_lane (slot : Fin 64) (k : Node) (m : Fin 128) :
    (close s (s.nodeReported slot k)).lanes.get m =
      if ∃ c ∈ (s.lanes.get m).cells, c.ref.slot = slot
      then (s.lanes.get m).doubted (close s (s.nodeReported slot k)).nodes else s.lanes.get m := by
  have hfed : (s.lanes.get m).fedBy slot = true ↔ ∃ c ∈ (s.lanes.get m).cells, c.ref.slot = slot := by
    simp [Lane.fedBy]
  rw [Lane.doubted_congr fun i => close_nodeReported_state slot i k, close_lane, nodeReported, Table.get_map]
  simp only [hfed]
  split_ifs
  · exact Lane.settleDue_of_kinds rfl
  · exact Lane.settleDue_self _ _

/-- A change of a record that leaves STATE as it was closes with nothing due, and beacons that follow stay. -/
theorem close_setNode_of_pending {slot : Fin 64} {k : Node} (h : s.BeaconsFollow)
    (hk : k.statePending = (s.nodes.get slot).statePending) :
    close s (s.setNode slot k) = s.setNode slot k := by
  have follow : (s.setNode slot k).BeaconsFollow := h
  have quiet : close s (s.setNode slot k) = (s.setNode slot k).refreshBeacons := close_quiet fun x => by
    cases x with
    | lane n => rfl
    | node i =>
      simp only [kindPending, setNode_nodes, Table.get_set]
      split_ifs with hi
      · rw [hk, hi]
      · rfl
  rw [quiet, refreshBeacons_of_follow _ follow]

theorem close_releaseNode_granted {slot : Fin 64} (h : s.BeaconsFollow)
    (hs : (s.nodes.get slot).state = .cutOff) (hr : (s.nodes.get slot).probeRun ≠ 64) :
    close s (s.releaseNode slot) = s.setNode slot { s.nodes.get slot with releaseGranted := true } := by
  have granted : s.releaseNode slot = s.setNode slot { s.nodes.get slot with releaseGranted := true } :=
    (if_pos hs).trans (if_neg hr)
  rw [granted]
  exact close_setNode_of_pending h rfl

theorem close_releaseNode_of_not_cutOff {slot : Fin 64} (h : s.BeaconsFollow)
    (hs : (s.nodes.get slot).state ≠ .cutOff) : close s (s.releaseNode slot) = s := by
  have unchanged : s.releaseNode slot = s := if_neg hs
  rw [unchanged]
  exact (close_quiet fun _ => rfl).trans (refreshBeacons_of_follow s h)

end State

open State

/-- Settles O23, by whether the slot exists. -/
theorem readNodeAnswersAndEmpties : Obligations.ReadNodeAnswersAndEmpties := by
  refine fun s tag h => ⟨fun slot => ?_, fun slot hslot => ?_⟩
  · rw [exec_readNode h, requestReadNode_slot]
    rfl
  · rw [exec_readNode h, requestReadNode_no_slot hslot, reply_refuse]
    rfl

/-- Settles O24, by what R130 does to the node; a return is one report, closed over beacons that follow. -/
theorem releaseNodeReturnsOrGrants : Obligations.ReleaseNodeReturnsOrGrants := by
  refine fun s tag h follow => ⟨fun slot => ?_, fun slot hslot => ?_⟩
  · simp only [exec_releaseNode h, requestReleaseNode_slot, reply_done]
    refine ⟨fun hs hr => ?_, fun hs hr => ?_, fun hs => ?_⟩
    · rw [releaseNode_returned hs hr]
      refine ⟨_, rfl, ?_, ?_, fun i hi => ?_, close_nodeReported_lane slot _⟩
      · exact congrArg (answered · tag [0x31, 0x00]) (close_of_follow (nodeReported_follow follow))
      · exact (close_node _ _ slot).trans (congrArg _ (Table.get_set_self _ _ _))
      · refine (close_node _ _ i).trans ?_
        rw [nodeReported, Table.get_set_ne _ (Ne.symm hi), Node.settleDue_self]
    · rw [close_releaseNode_granted follow hs hr]
      rfl
    · rw [close_releaseNode_of_not_cutOff follow hs]
      rfl
  · rw [exec_releaseNode h, requestReleaseNode_no_slot hslot, reply_refuse]
    rfl

end Sys2Proof.Machine
end

section
/-! How a node record takes an outcome (O50): at a CUT_OFF node by R129, at every other by R124 to R128. -/

namespace Sys2Proof.Machine

namespace Node

variable {n : Node} {limit : Nat} {auto : Bool} {o : VisitOutcome}

@[simp] theorem seeError_state : (n.seeError o).state = n.state := by cases o <;> rfl

theorem judge_of_cutOff (h : n.state = .cutOff) : n.judge limit auto o = (n.seeError o).probe o :=
  if_pos (seeError_state.trans h)

/-! ### A node that is not CUT_OFF (R124 to R128) -/

theorem judge_good (h : n.state ≠ .cutOff) : n.judge limit auto .good = n.good := if_neg h

theorem judge_corrupt (h : n.state ≠ .cutOff) :
    n.judge limit auto .corrupt = { n with corruptSeen := true }.bad auto := if_neg h

theorem judge_malformed (h : n.state ≠ .cutOff) :
    n.judge limit auto .malformed = { n with malformedSeen := true }.bad auto := if_neg h

theorem judge_missed (h : n.state ≠ .cutOff) :
    n.judge limit auto .missed = { n with missedSeen := true }.miss limit := if_neg h

theorem good_record : n.good = { n with
    score := n.score - 1
    missRun := 0
    state := if n.state = .active ∨ n.score - 1 ≤ 127 then .active else .doubtful } := by
  simp [good]

theorem bad_past_ceiling (h : 255 < n.score + 8) : n.bad auto = n.cutOff auto := if_pos h

theorem bad_within_ceiling (h : n.score + 8 ≤ 255) : n.bad auto = { n with
    score := n.score + 8
    state := if n.state = .active ∧ 128 ≤ n.score + 8 then .doubtful else n.state } := by
  simp [bad, Config.runCeiling, Nat.not_lt.2 h]

/-- R125 does not look at the kinds of error seen. -/
theorem bad_seen (corrupt malformed : Bool) :
    { n with corruptSeen := corrupt, malformedSeen := malformed }.bad auto =
      { n.bad auto with corruptSeen := corrupt, malformedSeen := malformed } := by
  simp only [bad]
  split_ifs <;> rfl

theorem miss_record : n.miss limit =
    let run := min 255 (n.missRun + 1)
    let score := if n.score < 128 then n.score + 8 else n.score
    { n with
      score := score
      missRun := run
      state :=
        if n.state ≠ .absent ∧ limit ≤ run then .absent
        else if n.state = .active ∧ 128 ≤ score then .doubtful
        else n.state } := by
  by_cases h : n.state = .absent <;> simp [miss, Config.runCeiling, h]

/-! ### A CUT_OFF node (R129) -/

theorem probe_good_counts
    (h : n.probeRun < 63 ∨ n.probeRun = 63 ∧ n.recovery = .release ∧ n.releaseGranted = false) :
    n.probe .good = { n with probeRun := n.probeRun + 1 } := by
  rcases h with h | ⟨h, hr, hg⟩
  · have hrun : n.probeRun < 64 := by omega
    have hnot : n.probeRun + 1 ≠ 64 := by omega
    simp [probe, Config.probeRunLength, hrun, hnot]
  · simp [probe, Config.probeRunLength, h, hr, hg]

theorem probe_good_returns (h : n.probeRun = 63) (hr : n.recovery = .auto ∨ n.releaseGranted = true) :
    n.probe .good = n.returnActive := by
  simp [probe, Config.probeRunLength, h, hr, returnActive]

theorem probe_good_complete (h : 64 ≤ n.probeRun) : n.probe .good = n := if_neg (Nat.not_lt.2 h)

end Node

open Node

/-- Settles O50, by the state of the node and the outcome. -/
theorem nodeTakesOutcome : Obligations.NodeTakesOutcome := by
  intro n limit auto k run score
  refine ⟨fun h => ⟨?_, fun past => ?_, fun within => ?_, ?_, ?_⟩, fun h =>
    ⟨fun hrun => ?_, fun hrun hr => ?_, fun hrun => ?_, ?_, ?_, ?_⟩⟩
  · exact (judge_good h).trans good_record
  · exact (judge_corrupt h).trans (bad_past_ceiling past)
  · exact (judge_corrupt h).trans (bad_within_ceiling within)
  · have corrupt : k .corrupt = { n.bad auto with corruptSeen := true, malformedSeen := n.malformedSeen } :=
      (judge_corrupt h).trans (bad_seen true n.malformedSeen)
    rw [corrupt]
    exact (judge_malformed h).trans (bad_seen n.corruptSeen true)
  · exact (judge_missed h).trans miss_record
  · exact (judge_of_cutOff h).trans (probe_good_counts hrun)
  · exact (judge_of_cutOff h).trans (probe_good_returns hrun hr)
  · exact (judge_of_cutOff h).trans (probe_good_complete hrun)
  · exact judge_of_cutOff h
  · exact judge_of_cutOff h
  · exact judge_of_cutOff h

end Sys2Proof.Machine
end

section
/-! Every step keeps requests, replies and relays consistent (O58): what an operation may do to them, the requests
the engine executes and takes, and from these each command and the step. -/

namespace Sys2Proof.Machine

namespace State

variable {s t u : State}

/-! ### What the engine, the intake FIFO and the relay queues hold -/

/-- The acceptance numbers along the relay queue of a segment. -/
def acceptances (s : State) (g : Segment) : List Nat := (s.sweep g).relays.map Relay.acceptance

/-- Acceptance numbers rise along each queue, differ between the two, and lie below the next one (Table 6-3). -/
structure RelaysOrdered (s : State) : Prop where
  rising : ∀ g, (s.acceptances g).Pairwise (· < ·)
  apart : ∀ n ∈ s.acceptances .a, n ∉ s.acceptances .b
  below : ∀ g, ∀ n ∈ s.acceptances g, n < s.nextAcceptance

/-- All that `State.RequestsConsistent` says but for the requests that wait: it also holds between the takes of
requests that the engine takes one after the other. -/
structure RequestsHeld (s : State) : Prop extends s.RelaysOrdered where
  committing : ∀ tag r, s.mgmt.engine = .committing tag r → s.mgmt.reply = none
  restarting : s.mgmt.engine = .restarting → ∃ tag, s.mgmt.reply = some ⟨tag, [0x4F, 0x00]⟩
  unassigned : s.backbone.address = none → s.mgmt.intake = [] ∧ s.mgmt.reply = none
    ∧ s.mgmt.engine = .idle ∧ ∀ g, s.acceptances g = []

theorem ready_eq_false : s.ready = false ↔ s.mgmt.engine ≠ .idle ∨ s.mgmt.reply ≠ none := by
  cases he : s.mgmt.engine <;> simp [ready, he, Option.ne_none_iff_isSome]

theorem ready_iff : s.ready = true ↔ s.mgmt.engine = .idle ∧ s.mgmt.reply = none := by
  cases he : s.mgmt.engine <;> simp [ready, he]

/-- A request waits only while the engine may not take it (R156). -/
theorem requestsConsistent_iff : s.RequestsConsistent ↔
    s.RequestsHeld ∧ (s.mgmt.intake ≠ [] → s.ready = false) := by
  rw [ready_eq_false]
  constructor
  · rintro ⟨hc, hr, hw, hu, ha, hb, hab, hn⟩
    refine ⟨⟨⟨?_, ?_, ?_⟩, hc, hr, ?_⟩, hw⟩
    · rintro (_ | _)
      · exact List.pairwise_map.2 ha
      · exact List.pairwise_map.2 hb
    · simp only [acceptances, List.mem_map]
      rintro _ ⟨x, hx, rfl⟩ ⟨y, hy, he⟩
      exact hab x hx y hy he.symm
    · simp only [acceptances, List.mem_map]
      rintro (_ | _) _ ⟨x, hx, rfl⟩
      · exact hn x (List.mem_append_left _ hx)
      · exact hn x (List.mem_append_right _ hx)
    · intro h
      obtain ⟨hi, hrep, he, hra, hrb⟩ := hu h
      refine ⟨hi, hrep, he, ?_⟩
      rintro (_ | _)
      · exact List.map_eq_nil_iff.2 hra
      · exact List.map_eq_nil_iff.2 hrb
  · rintro ⟨⟨⟨hrise, hapart, hbelow⟩, hc, hr, hu⟩, hw⟩
    refine ⟨hc, hr, hw, fun h => ?_, List.pairwise_map.1 (hrise .a), List.pairwise_map.1 (hrise .b), ?_, ?_⟩
    · obtain ⟨hi, hrep, he, hg⟩ := hu h
      exact ⟨hi, hrep, he, List.map_eq_nil_iff.1 (hg .a), List.map_eq_nil_iff.1 (hg .b)⟩
    · intro x hx y hy he
      exact hapart _ (List.mem_map_of_mem hx) (he ▸ List.mem_map_of_mem hy)
    · intro x hx
      rcases List.mem_append.1 hx with hx | hx
      · exact hbelow .a _ (List.mem_map_of_mem hx)
      · exact hbelow .b _ (List.mem_map_of_mem hx)

/-! ### What an operation leaves -/

/-- Engine, reply slot, intake FIFO and address stay, and so does what relay queues hold, but for relays that
leave them. -/
structure KeepsRequests (s t : State) : Prop where
  engine : t.mgmt.engine = s.mgmt.engine
  reply : t.mgmt.reply = s.mgmt.reply
  intake : t.mgmt.intake = s.mgmt.intake
  address : t.backbone.address = s.backbone.address
  queues : ∀ g, (t.acceptances g).Sublist (s.acceptances g)
  next : t.nextAcceptance = s.nextAcceptance

namespace KeepsRequests

theorem trans (h : s.KeepsRequests t) (k : t.KeepsRequests u) : s.KeepsRequests u :=
  ⟨k.engine.trans h.engine, k.reply.trans h.reply, k.intake.trans h.intake, k.address.trans h.address,
    fun g => (k.queues g).trans (h.queues g), k.next.trans h.next⟩

theorem of_same (he : t.mgmt.engine = s.mgmt.engine := by rfl)
    (hr : t.mgmt.reply = s.mgmt.reply := by rfl) (hi : t.mgmt.intake = s.mgmt.intake := by rfl)
    (ha : t.backbone.address = s.backbone.address := by rfl)
    (hn : t.nextAcceptance = s.nextAcceptance := by rfl)
    (hq : ∀ g, t.acceptances g = s.acceptances g := by intro g; cases g <;> rfl) : s.KeepsRequests t :=
  ⟨he, hr, hi, ha, fun g => hq g ▸ List.Sublist.refl _, hn⟩

theorem of_blocks (hm : t.mgmt = s.mgmt := by rfl)
    (ha : t.backbone.address = s.backbone.address := by rfl)
    (hra : t.sweepA.relays = s.sweepA.relays := by rfl)
    (hrb : t.sweepB.relays = s.sweepB.relays := by rfl)
    (hn : t.nextAcceptance = s.nextAcceptance := by rfl) : s.KeepsRequests t where
  engine := by rw [hm]
  reply := by rw [hm]
  intake := by rw [hm]
  address := ha
  queues g := by cases g <;> simp [acceptances, sweep, hra, hrb]
  next := hn

theorem refl (s : State) : s.KeepsRequests s := .of_blocks

theorem ite {c : Prop} [Decidable c] (h : s.KeepsRequests t) (k : s.KeepsRequests u) :
    s.KeepsRequests (if c then t else u) := by
  split_ifs
  · exact h
  · exact k

theorem relaysOrdered (h : s.KeepsRequests t) (hs : s.RelaysOrdered) : t.RelaysOrdered where
  rising g := (hs.rising g).sublist (h.queues g)
  apart n hn hm := hs.apart n ((h.queues .a).subset hn) ((h.queues .b).subset hm)
  below g n hn := h.next ▸ hs.below g n ((h.queues g).subset hn)

theorem requestsHeld (h : s.KeepsRequests t) (hs : s.RequestsHeld) : t.RequestsHeld where
  toRelaysOrdered := h.relaysOrdered hs.toRelaysOrdered
  committing := by simpa only [h.engine, h.reply] using hs.committing
  restarting := by simpa only [h.engine, h.reply] using hs.restarting
  unassigned := by
    rw [h.address, h.intake, h.reply, h.engine]
    intro ha
    obtain ⟨hi, hr, he, hq⟩ := hs.unassigned ha
    exact ⟨hi, hr, he, fun g => List.sublist_nil.1 (hq g ▸ h.queues g)⟩

theorem ready (h : s.KeepsRequests t) : t.ready = s.ready := by
  rw [State.ready, State.ready, h.engine, h.reply]

theorem consistent (h : s.KeepsRequests t) (hs : s.RequestsConsistent) : t.RequestsConsistent := by
  rw [requestsConsistent_iff] at *
  rw [h.ready, h.intake]
  exact ⟨h.requestsHeld hs.1, hs.2⟩

theorem close (h : s.KeepsRequests t) (b : State) : s.KeepsRequests (State.close b t) :=
  h.trans <| .of_blocks (close_mgmt b t) (by rw [close_backbone]) (by rw [close_sweepA]) (by rw [close_sweepB])
    (close_nextAcceptance b t)

end KeepsRequests

/-! ### Sweeps, readings and relays -/

/-- A sweep engine changes, and its queue holds no relay that it did not hold. -/
theorem keepsRequests_setSweep {g : Segment} {e : SweepEngine}
    (h : (e.relays.map Relay.acceptance).Sublist (s.acceptances g)) : s.KeepsRequests (s.setSweep g e) where
  engine := by simp
  reply := by simp
  intake := by simp
  address := by simp
  queues k := by
    by_cases hk : g = k
    · subst hk
      rw [acceptances, setSweep_sweep]
      exact h
    · rw [acceptances, setSweep_sweep_ne _ _ hk]
      exact List.Sublist.refl _
  next := by simp

theorem keepsRequests_setSweep_of_relays {g : Segment} {e : SweepEngine}
    (h : e.relays = (s.sweep g).relays) : s.KeepsRequests (s.setSweep g e) :=
  keepsRequests_setSweep (by rw [h]; exact List.Sublist.refl _)

/-- The relays of a queue change, and keep their acceptance numbers. -/
theorem keepsRequests_setRelays {g : Segment} {rs : List Relay}
    (h : rs.map Relay.acceptance = s.acceptances g) : s.KeepsRequests (s.setRelays g rs) :=
  keepsRequests_setSweep (by rw [← h])

theorem acceptances_loseRelays (address : BitVec 6) (rs : List Relay) :
    (loseRelays address rs).map Relay.acceptance = rs.map Relay.acceptance := by
  rw [loseRelays, List.map_map]
  refine List.map_congr_left fun r _ => ?_
  simp only [Function.comp_apply]
  split_ifs <;> rfl

theorem acceptance_answer (o : Except VisitOutcome Bool) (r : Relay) :
    (r.answer o).acceptance = r.acceptance := by
  unfold Relay.answer Relay.fail
  split
  · rfl
  · rfl
  · split_ifs <;> rfl

theorem keepsRequests_reportNode (s : State) (slot : Fin 64) (k : Node) :
    s.KeepsRequests (s.reportNode slot k) := by
  refine .of_same (by simp) (by simp) (by simp) (by simp) (by simp) fun g => ?_
  rw [acceptances, reportNode_sweep]
  split_ifs
  · exact acceptances_loseRelays _ _
  · rfl

theorem keepsRequests_nodeOutcome (s : State) (slot : Fin 64) (o : VisitOutcome) :
    s.KeepsRequests (s.nodeOutcome slot o) := s.keepsRequests_reportNode slot _

theorem keepsRequests_releaseNode (s : State) (slot : Fin 64) :
    s.KeepsRequests (s.releaseNode slot) :=
  .ite (.ite (s.keepsRequests_reportNode slot _) .of_blocks) (.refl s)

theorem keepsRequests_endVisit (s : State) (g : Segment) (v : Visit) : s.KeepsRequests (s.endVisit g v) :=
  keepsRequests_setSweep_of_relays (by simp)

theorem keepsRequests_goodReading (s : State) (g : Segment) (v : Visit) (r : Reading) :
    s.KeepsRequests (s.goodReading g v r) := by
  rw [goodReading_frame]
  exact KeepsRequests.trans .of_blocks
    (keepsRequests_setSweep_of_relays (goodReading_relays.trans (by cases g <;> rfl)))

theorem keepsRequests_endPoll (s : State) (g : Segment) (v : Visit) (o : Except VisitOutcome Reading) :
    s.KeepsRequests (s.endPoll g v o) := by
  unfold endPoll
  refine .ite (s.keepsRequests_endVisit g v) ?_
  split
  · exact s.keepsRequests_goodReading g v _
  · exact (s.keepsRequests_nodeOutcome v.slot _).trans (keepsRequests_endVisit _ g v)

theorem keepsRequests_answerRelay (s : State) (g : Segment) (v : Visit) (n : Nat)
    (o : Except VisitOutcome Bool) : s.KeepsRequests (s.answerRelay g v n o) := by
  unfold answerRelay
  split
  · exact .refl s
  · have answered : s.KeepsRequests (s.setRelays g ((s.sweep g).relays.map (fun x =>
        if x.isOpen && x.acceptance == n then x.answer o else x))) := by
      refine keepsRequests_setRelays ?_
      rw [List.map_map]
      refine List.map_congr_left fun r _ => ?_
      simp only [Function.comp_apply]
      split_ifs
      · exact acceptance_answer o r
      · rfl
    exact .ite (answered.trans .of_blocks) answered

theorem keepsRequests_endRelay (s : State) (g : Segment) (v : Visit) (n : Nat)
    (o : Except VisitOutcome Bool) : s.KeepsRequests (s.endRelay g v n o) :=
  .ite (s.keepsRequests_endVisit g v) <|
    ((s.keepsRequests_answerRelay g v n o).trans (keepsRequests_nodeOutcome _ v.slot _)).trans
      (keepsRequests_endVisit _ g v)

theorem keepsRequests_endMissed (s : State) (g : Segment) : s.KeepsRequests (s.endMissed g) := by
  unfold endMissed
  split
  · exact .refl s
  · split
    · exact s.keepsRequests_endPoll g _ _
    · exact s.keepsRequests_endRelay g _ _ _

/-- A completed resolution ends relays and takes none out of its queue (R28). -/
theorem keepsRequests_installResolution (s : State) (r : Resolution) :
    s.KeepsRequests (s.installResolution r) := by
  refine KeepsRequests.close (t := s.lanesInstalled r) ?_ s
  have queues (g : Segment) : (s.slotsChanged r).acceptances g = s.acceptances g := by
    rw [acceptances, slotsChanged, changeSlots_sweep, List.map_map]
    refine List.map_congr_left fun x _ => ?_
    simp only [Function.comp_apply]
    split_ifs <;> rfl
  exact .of_same (hq := queues)

/-! ### Time, aisle hold, the key and the clock -/

theorem keepsRequests_elapse (s : State) (d : Nat) : s.KeepsRequests (s.elapse d) := .of_blocks

theorem keepsRequests_endHold (s : State) : s.KeepsRequests s.endHold :=
  .ite (KeepsRequests.close .of_blocks s) (.refl s)

theorem keepsRequests_toggleHold (s : State) : s.KeepsRequests s.toggleHold :=
  .ite s.keepsRequests_endHold .of_blocks

theorem keepsRequests_takeKey (s : State) : s.KeepsRequests s.takeKey := by
  unfold takeKey
  simp only
  split
  · split <;> exact .of_blocks
  · split <;> exact .of_blocks

theorem keepsRequests_setClock (s : State) (value : Clock) : s.KeepsRequests (s.setClock value) :=
  .ite (.refl s) (KeepsRequests.close .of_blocks s)

theorem keepsRequests_of_sameButQueue (h : s.SameButQueue t) : s.KeepsRequests t := by
  unfold SameButQueue at h
  rw [h]
  exact .of_blocks

/-! ### The requests -/

/-- A request leaves the engine, its intake FIFO, its reply slot and the address as they are, and the relay
queues ordered. -/
structure Performs (s t : State) : Prop where
  engine : t.mgmt.engine = s.mgmt.engine
  reply : t.mgmt.reply = s.mgmt.reply
  intake : t.mgmt.intake = s.mgmt.intake
  address : t.backbone.address = s.backbone.address
  ordered : s.RelaysOrdered → t.RelaysOrdered

theorem KeepsRequests.performs (h : s.KeepsRequests t) : s.Performs t :=
  ⟨h.engine, h.reply, h.intake, h.address, h.relaysOrdered⟩

theorem Performs.refl (s : State) : s.Performs s := (KeepsRequests.refl s).performs

/-- A relay accepted with the next acceptance number stands last in its queue and above every other
(Table 6-3). -/
theorem RelaysOrdered.append (hs : s.RelaysOrdered) {g : Segment} {r : Relay}
    (hr : r.acceptance = s.nextAcceptance) :
    ({ s.setRelays g ((s.sweep g).relays ++ [r]) with
      nextAcceptance := s.nextAcceptance + 1 } : State).RelaysOrdered := by
  have queue (h : Segment) : ({ s.setRelays g ((s.sweep g).relays ++ [r]) with
      nextAcceptance := s.nextAcceptance + 1 } : State).acceptances h =
        if g = h then s.acceptances h ++ [s.nextAcceptance] else s.acceptances h := by
    cases g <;> cases h <;> simp [acceptances, setRelays, setSweep, sweep, hr]
  refine ⟨fun h => ?_, fun n hn hm => ?_, fun h n hn => ?_⟩
  · rw [queue]
    split_ifs
    · exact List.pairwise_append.2 ⟨hs.rising h, List.pairwise_singleton _ _, by simpa using hs.below h⟩
    · exact hs.rising h
  · have fresh (h : Segment) : s.nextAcceptance ∉ s.acceptances h := fun hx =>
      Nat.lt_irrefl _ (hs.below h _ hx)
    rw [queue] at hn hm
    cases g with
    | a =>
      rcases List.mem_append.1 hn with hn | hn
      · exact hs.apart n hn hm
      · exact fresh .b (List.mem_singleton.1 hn ▸ hm)
    | b =>
      rcases List.mem_append.1 hm with hm | hm
      · exact hs.apart n hn hm
      · exact fresh .a (List.mem_singleton.1 hm ▸ hn)
  · rw [queue] at hn
    have below : n ∈ s.acceptances h ∨ n = s.nextAcceptance := by
      split_ifs at hn
      · simpa using hn
      · exact .inl hn
    rcases below with hn | rfl
    · exact Nat.lt_succ_of_lt (hs.below h n hn)
    · exact Nat.lt_succ_self _

theorem performs_requestRelay (s : State) (tag : Byte) (p : List Byte) :
    s.Performs (s.requestRelay tag p).state := by
  unfold requestRelay
  simp only
  split
  · exact .refl s
  · split
    · exact .refl s
    · split
      · exact .refl s
      · split
        · exact .refl s
        · exact {
            engine := by simp [done], reply := by simp [done], intake := by simp [done]
            address := by simp [done]
            ordered := fun hs => hs.append rfl }

theorem keepsRequests_storeSettings (s : State) (w : Settings) : s.KeepsRequests (s.storeSettings w) := by
  have relays (e : SweepEngine) (image : Image) (g : Segment) (old new : Nat) :
      (e.newPeriod image g old new).relays = e.relays := by
    unfold SweepEngine.newPeriod SweepEngine.expire
    split_ifs <;> rfl
  refine .of_same (hq := ?_)
  rintro (_ | _) <;> exact congrArg _ (relays _ _ _ _ _)

theorem keepsRequests_acknowledgeAll (s : State) (pairs : List (Fin 128 × Band)) :
    s.KeepsRequests (s.acknowledgeAll pairs) := by
  rw [acknowledgeAll_frame]
  exact .of_blocks

theorem keepsRequests_storeGroup (s : State) (n : Fin 16) (g : Group) :
    s.KeepsRequests (s.storeGroup n g) := by
  rw [storeGroup_frame]
  exact .of_blocks

/-- Every request but COMMIT and RESTART, which hold the engine. -/
theorem performs_perform (s : State) (code : RequestCode) (tag : Byte) (p : List Byte)
    (hc : code ≠ .commit) (hr : code ≠ .restart) : s.Performs (s.perform code tag p).state := by
  cases code with
  | commit => exact absurd rfl hc
  | restart => exact absurd rfl hr
  | relay => exact s.performs_requestRelay tag p
  | identify => exact .refl s
  | readStatus => exact (KeepsRequests.of_same (t := s.clearStatus)).performs
  | writeStation =>
    refine KeepsRequests.performs ?_
    simp only [perform, requestWriteStation]
    split
    · exact .refl s
    · exact s.keepsRequests_storeSettings _
  | noticeOutput =>
    refine KeepsRequests.performs ?_
    simp only [perform, requestNoticeOutput]
    split <;> exact .of_blocks
  | writeCapture =>
    refine KeepsRequests.performs ?_
    simp only [perform, requestWriteCapture]
    split
    · split <;> exact .of_blocks
    · exact .refl s
  | writeMask =>
    refine KeepsRequests.performs ?_
    simp only [perform, requestWriteMask]
    split <;> exact .of_blocks
  | writeCalibration =>
    refine KeepsRequests.performs ?_
    simp only [perform, requestWriteCalibration]
    split
    · exact .refl s
    · split_ifs <;> exact .of_blocks
  | loadSweepList =>
    refine KeepsRequests.performs ?_
    simp only [perform, requestLoadSweepList]
    split
    · exact .refl s
    · split_ifs <;> exact .of_blocks
  | discard => exact (KeepsRequests.of_blocks (t := { s with staged := s.active })).performs
  | writeLane =>
    refine KeepsRequests.performs ?_
    simp only [perform, requestWriteLane]
    split
    · exact .refl s
    · split_ifs
      · exact .refl s
      · split
        · exact .refl s
        · exact KeepsRequests.close .of_blocks s
  | readLane =>
    refine KeepsRequests.performs ?_
    simp only [perform, requestReadLane]
    split
    · exact .refl s
    · split <;> exact .refl s
  | zeroLane =>
    refine KeepsRequests.performs ?_
    simp only [perform, requestZeroLane]
    split
    · exact .refl s
    · split <;> exact .of_blocks
  | acknowledge =>
    refine KeepsRequests.performs ?_
    simp only [perform, requestAcknowledge]
    split
    · exact .refl s
    · exact (s.keepsRequests_acknowledgeAll _).close s
  | writeGroup =>
    refine KeepsRequests.performs ?_
    simp only [perform, requestWriteGroup]
    split
    · exact .refl s
    · split
      · exact (s.keepsRequests_storeGroup _ _).close s
      · exact .refl s
  | readNode =>
    refine KeepsRequests.performs ?_
    simp only [perform, requestReadNode]
    split <;> exact .of_blocks
  | releaseNode =>
    refine KeepsRequests.performs ?_
    simp only [perform, requestReleaseNode]
    split
    · exact .refl s
    · exact (s.keepsRequests_releaseNode _).close s
  | aisleHold => exact (KeepsRequests.of_blocks (t := s.startHold)).performs
  | aisleRelease => exact s.keepsRequests_endHold.performs

theorem performs_answer (s : State) (code : RequestCode) (tag : Byte) (p : List Byte)
    (hc : code = .commit → code.fits p.length = false) (hr : code = .restart → code.fits p.length = false) :
    s.Performs (s.answer code tag p).state := by
  unfold answer
  split_ifs with hf
  · refine s.performs_perform code tag p (fun h => ?_) fun h => ?_
    · rw [hc h] at hf
      cases hf
    · rw [hr h] at hf
      cases hf
  · exact .refl s

/-- A broadcast request is accepted only where it holds no engine (R157). -/
theorem performs_executeBroadcast (s : State) (tag : Byte) (p : List Byte) :
    s.Performs (s.executeBroadcast tag p) := by
  unfold executeBroadcast
  split
  · exact .refl s
  · split
    · exact .refl s
    · split_ifs with hb
      · exact s.performs_answer _ _ _ (by rintro rfl; cases hb) (by rintro rfl; cases hb)
      · exact .refl s

/-! ### The engine executes and takes requests -/

/-- What the execution of a request that the engine has taken leaves at an assigned station. -/
structure Executes (s t : State) : Prop where
  held : s.RequestsHeld → t.RequestsHeld
  intake : t.mgmt.intake = s.mgmt.intake
  address : t.backbone.address = s.backbone.address

theorem Performs.executes (h : s.Performs t) (ha : s.backbone.address ≠ none) : s.Executes t where
  held hs := {
    toRelaysOrdered := h.ordered hs.toRelaysOrdered
    committing := by simpa only [h.engine, h.reply] using hs.committing
    restarting := by simpa only [h.engine, h.reply] using hs.restarting
    unassigned := fun hn => absurd (h.address ▸ hn) ha }
  intake := h.intake
  address := h.address

/-- An IDLE engine places a REPLY in the reply slot. -/
theorem Performs.putReply (h : s.Performs t) (ha : s.backbone.address ≠ none)
    (he : s.mgmt.engine = .idle) (tag code : Byte) (r : Result) (fields : List Byte) :
    s.Executes (t.putReply tag code r fields) where
  held hs := {
    rising := (h.ordered hs.toRelaysOrdered).rising
    apart := (h.ordered hs.toRelaysOrdered).apart
    below := (h.ordered hs.toRelaysOrdered).below
    committing := fun tag r hc => by
      have hc' : t.mgmt.engine = .committing tag r := hc
      rw [h.engine, he] at hc'
      cases hc'
    restarting := fun hc => by
      have hc' : t.mgmt.engine = .restarting := hc
      rw [h.engine, he] at hc'
      cases hc'
    unassigned := fun hn => absurd (h.address ▸ hn) ha }
  intake := h.intake
  address := h.address

theorem executes_beginCommit (ha : s.backbone.address ≠ none) (hr : s.mgmt.reply = none) (tag : Byte) :
    s.Executes (s.beginCommit tag) where
  held hs := {
    rising := hs.rising, apart := hs.apart, below := hs.below
    committing := fun _ _ _ => hr
    restarting := nofun
    unassigned := fun hn => absurd hn ha }
  intake := rfl
  address := rfl

theorem executes_restart (ha : s.backbone.address ≠ none) (tag : Byte) :
    s.Executes (s.beginRestart.putReply tag RequestCode.restart.code .done []) where
  held hs := {
    rising := hs.rising, apart := hs.apart, below := hs.below
    committing := nofun
    restarting := fun _ => ⟨tag, rfl⟩
    unassigned := fun hn => absurd hn ha }
  intake := rfl
  address := rfl

/-- The engine executes a request that it takes (R156, R157). -/
theorem executes_execute (ha : s.backbone.address ≠ none) (hready : s.ready = true) (q : Request) :
    s.Executes (s.execute q) := by
  obtain ⟨he, hr⟩ := ready_iff.1 hready
  have refused := (Performs.refl s).putReply ha he q.tag
  unfold execute
  split
  · exact (s.performs_executeBroadcast _ _).executes ha
  · unfold executeUnicast
    split
    · exact refused _ _ _
    · split
      · exact refused _ _ _
      · rename_i code _
        split_ifs with hcommit
        · exact executes_beginCommit ha hr q.tag
        · by_cases hrestart : code = .restart ∧ code.fits q.payload.length = true
          · obtain ⟨rfl, hf⟩ := hrestart
            rw [answer_of_fits _ _ hf]
            exact executes_restart ha q.tag
          · refine (s.performs_answer code _ _ (fun h => ?_) fun h => ?_).putReply ha he _ _ _ _
            · simpa [h] using hcommit
            · simpa [h] using hrestart

/-- The engine takes requests until it must wait: with takes enough, what is left waits for a reason. -/
theorem takeUpTo_consistent (fuel : Nat) (ha : s.backbone.address ≠ none) (hs : s.RequestsHeld)
    (hf : s.mgmt.intake.length ≤ fuel) : (s.takeUpTo fuel).RequestsConsistent := by
  induction fuel generalizing s with
  | zero =>
    exact requestsConsistent_iff.2 ⟨hs, fun h => absurd (List.length_eq_zero_iff.1 (Nat.le_zero.1 hf)) h⟩
  | succ fuel ih =>
    unfold takeUpTo
    split_ifs with hready
    · split
      · rename_i hi
        exact requestsConsistent_iff.2 ⟨hs, fun h => absurd hi h⟩
      · rename_i r rest hi
        have hexec := executes_execute (s := { s with mgmt := { s.mgmt with intake := rest } }) ha hready r
        refine ih (fun hn => ha (hexec.address ▸ hn)) (hexec.held ?_) ?_
        · exact {
            rising := hs.rising, apart := hs.apart, below := hs.below
            committing := hs.committing, restarting := hs.restarting
            unassigned := fun hn => absurd hn ha }
        · rw [hexec.intake]
          rw [hi] at hf
          exact Nat.le_of_succ_le_succ hf
    · exact requestsConsistent_iff.2 ⟨hs, fun _ => by simpa using hready⟩

theorem takeRequests_consistent (ha : s.backbone.address ≠ none) (hs : s.RequestsHeld) :
    s.takeRequests.RequestsConsistent := takeUpTo_consistent _ ha hs (Nat.le_refl _)

namespace RequestsConsistent

theorem held (h : s.RequestsConsistent) : s.RequestsHeld := (requestsConsistent_iff.1 h).1

theorem deliver (h : s.RequestsConsistent) (ha : s.backbone.address ≠ none) (q : Request) :
    (s.deliver q).RequestsConsistent := by
  have hs := h.held
  unfold State.deliver
  split_ifs
  · exact takeRequests_consistent ha {
      rising := hs.rising, apart := hs.apart, below := hs.below
      committing := hs.committing, restarting := hs.restarting
      unassigned := fun hn => absurd hn ha }
  · have kept : s.KeepsRequests { s with mgmt := { s.mgmt with
        requestOverrun := s.mgmt.requestOverrun || !q.broadcast
        missedBroadcast := s.mgmt.missedBroadcast || q.broadcast } } := .of_same
    exact kept.consistent h

theorem submit (h : s.RequestsConsistent) (q : Request) : (s.submit q).RequestsConsistent := by
  unfold State.submit
  split_ifs with ha
  · exact h.deliver (Option.isSome_iff_ne_none.1 ha) q
  · exact h

end RequestsConsistent

/-! ### The backbone -/

theorem keepsRequests_forwardDown (s : State) (f : Frame) : s.KeepsRequests (s.forwardDown f) :=
  .ite .of_blocks .of_blocks

theorem keepsRequests_forwardUp (s : State) (f : Frame) : s.KeepsRequests (s.forwardUp f) :=
  .ite .of_blocks .of_blocks

theorem keepsRequests_buFault (s : State) : s.KeepsRequests s.buFault := .of_blocks

theorem keepsRequests_sendLocal (s : State) (f : Frame) : s.KeepsRequests (s.sendLocal f) := .of_blocks

/-- A RELAY RESULT takes its relay out of the queue (R119). -/
theorem keepsRequests_takeRelay (s : State) (g : Segment) (r : Relay) :
    s.KeepsRequests (s.takeRelay g r) :=
  (keepsRequests_setSweep (List.filter_sublist.map _)).trans (keepsRequests_sendLocal _ _)

theorem keepsRequests_takeNotice {payload : List Byte} (h : s.takeNotice = some (payload, t)) :
    s.KeepsRequests t := by
  unfold takeNotice at h
  split at h
  · cases h
  · rename_i e _
    obtain ⟨-, rfl⟩ := Prod.mk.inj (Option.some.inj h)
    have cleared : s.KeepsRequests (s.clearKinds e.subject) := by
      cases e.subject <;> exact .of_blocks
    exact (cleared.trans .of_blocks).trans (keepsRequests_of_sameButQueue (admitDeferred_frame _))

/-- With the queue rebuilt and the beacons decided, a warm start has what it wrote before. -/
theorem keepsRequests_warmStart (s : State) : s.warmed.KeepsRequests s.warmStart := by
  rw [warmStart_eq]
  have rebuilt : s.warmed.KeepsRequests s.warmed.rebuildQueue :=
    KeepsRequests.trans .of_blocks (keepsRequests_of_sameButQueue (admitDeferred_frame _))
  exact rebuilt.trans .of_blocks

namespace RequestsConsistent

/-- Where nothing waits, the engine is IDLE and no relay is queued, all is consistent. -/
theorem of_empty (hi : s.mgmt.intake = []) (hr : s.mgmt.reply = none) (he : s.mgmt.engine = .idle)
    (hq : ∀ g, s.acceptances g = []) : s.RequestsConsistent := by
  refine requestsConsistent_iff.2 ⟨⟨⟨?_, ?_, ?_⟩, ?_, ?_, fun _ => ⟨hi, hr, he, hq⟩⟩, fun h => absurd hi h⟩
  · simp [hq]
  · simp [hq]
  · simp [hq]
  · simp [he]
  · simp [he]

theorem warmStart (s : State) : s.warmStart.RequestsConsistent :=
  s.keepsRequests_warmStart.consistent (of_empty rfl rfl rfl fun g => by cases g <;> rfl)

theorem coldStart (s : State) : s.coldStart.RequestsConsistent :=
  of_empty rfl rfl rfl fun g => by cases g <;> rfl

/-- An unassigned station has nothing that an address would have to wait for (R145, R147). -/
theorem withAddress (h : s.RequestsConsistent) (ha : s.backbone.address = none) (a : BitVec 16) :
    ({ s with backbone := { s.backbone with address := some a } } : State).RequestsConsistent := by
  obtain ⟨hi, hr, he, hq⟩ := h.held.unassigned ha
  exact of_empty hi hr he hq

theorem routeUnassigned (h : s.RequestsConsistent) (ha : s.backbone.address = none) (f : Frame) :
    (s.routeUnassigned f).RequestsConsistent := by
  have forwarded := (s.keepsRequests_forwardDown f).consistent h
  unfold State.routeUnassigned
  simp only
  split
  · split
    · exact (keepsRequests_forwardDown _ _).consistent (h.withAddress ha _)
    · exact forwarded
  · exact forwarded

theorem routeOwn (h : s.RequestsConsistent) (ha : s.backbone.address ≠ none) (f : Frame) :
    (s.routeOwn f).RequestsConsistent := by
  unfold State.routeOwn
  split_ifs
  · exact h.deliver ha _
  · exact (s.keepsRequests_setClock _).consistent h
  · exact s.keepsRequests_buFault.consistent h
  · exact s.keepsRequests_buFault.consistent h

theorem routeAll (h : s.RequestsConsistent) (ha : s.backbone.address ≠ none) (a : BitVec 16) (f : Frame) :
    (s.routeAll a f).RequestsConsistent := by
  have kept : s.KeepsRequests (if f.payload.length = 4 then s.setClock (BitVec.ofNat 32 (natOf f.payload))
      else s.buFault) := .ite (s.keepsRequests_setClock _) s.keepsRequests_buFault
  unfold State.routeAll
  split
  · exact (keepsRequests_forwardDown _ f).consistent (h.deliver ha _)
  · refine KeepsRequests.consistent ?_ h
    refine .ite (kept.trans (keepsRequests_forwardDown _ f)) (.ite (.ite ?_ ?_) ?_)
    · exact s.keepsRequests_forwardDown _
    · exact s.keepsRequests_buFault.trans (keepsRequests_forwardDown _ f)
    · exact s.keepsRequests_forwardDown f

theorem routeDown (h : s.RequestsConsistent) (f : Frame) : (s.routeDown f).RequestsConsistent := by
  unfold State.routeDown
  split
  · rename_i ha
    exact h.routeUnassigned ha f
  · rename_i a ha
    have hne : s.backbone.address ≠ none := by simp [ha]
    split_ifs
    · exact h.routeAll hne a f
    · exact h.routeOwn hne f
    · exact (s.keepsRequests_forwardDown f).consistent h

/-- The take of a REPLY frees the engine, or starts the part warm (R156, R159, R167). -/
theorem takeReply (h : s.RequestsConsistent) (ha : s.backbone.address ≠ none) (r : Reply) :
    (s.takeReply r).RequestsConsistent := by
  have hs := h.held
  have sent (hn : s.mgmt.engine ≠ .restarting) :
      (({ s with mgmt := { s.mgmt with reply := none } } : State).sendLocal
        (s.ownFrame kindReply r.tag r.payload)).takeRequests.RequestsConsistent :=
    takeRequests_consistent ha {
      rising := hs.rising, apart := hs.apart, below := hs.below
      committing := fun _ _ _ => rfl
      restarting := fun he => absurd he hn
      unassigned := fun hn => absurd hn ha }
  unfold State.takeReply
  simp only
  split
  · exact .warmStart _
  · rename_i he
    exact sent fun hr => nomatch he.symm.trans hr
  · rename_i he
    exact sent fun hr => nomatch he.symm.trans hr

theorem takeLocal (h : s.RequestsConsistent) (ht : s.takeLocal = some t) : t.RequestsConsistent := by
  unfold State.takeLocal at ht
  split at ht
  · cases ht
  · rename_i ha
    split at ht
    · cases ht
      exact h.takeReply (by simpa using ha) _
    · refine KeepsRequests.consistent ?_ h
      split at ht
      · cases ht
        exact s.keepsRequests_takeRelay _ _
      · split at ht
        · rename_i hn
          cases ht
          split at hn
          · exact (keepsRequests_takeNotice hn).trans (keepsRequests_sendLocal _ _)
          · cases hn
        · obtain ⟨payload, -, rfl⟩ := Option.map_eq_some_iff.1 ht
          exact .of_blocks

theorem chooseUpstream (h : s.RequestsConsistent) : s.chooseUpstream.RequestsConsistent := by
  have offered {u : State} (hu : u.RequestsConsistent) : (s.takeLocal.getD u).RequestsConsistent := by
    cases ht : s.takeLocal with
    | none => exact hu
    | some t => exact h.takeLocal ht
  have taken (f : Frame) (rest : List Frame) : (s.takeUp f rest).RequestsConsistent :=
    (KeepsRequests.of_blocks (t := s.takeUp f rest)).consistent h
  unfold State.chooseUpstream
  split
  · exact offered h
  · split_ifs
    · exact taken _ _
    · exact offered (taken _ _)

/-- A completed resolution frees the engine with the REPLY of its COMMIT (R30, R156). -/
theorem completed (h : s.RequestsConsistent) {tag : Byte} {r : Resolution}
    (he : s.mgmt.engine = .committing tag r) : (s.completed tag r).RequestsConsistent := by
  have hs := h.held
  have installed := (s.keepsRequests_installResolution r).relaysOrdered hs.toRelaysOrdered
  refine requestsConsistent_iff.2 ⟨?_, fun _ => rfl⟩
  exact {
    rising := installed.rising, apart := installed.apart, below := installed.below
    committing := nofun
    restarting := nofun
    unassigned := fun hn => by
      have ha : s.backbone.address = none :=
        (s.keepsRequests_installResolution r).address.symm.trans hn
      obtain ⟨-, -, hidle, -⟩ := hs.unassigned ha
      exact nomatch he.symm.trans hidle }

end RequestsConsistent

/-! ### The commands -/

/-- What a command answers keeps requests, replies and relays, if it answers. -/
def AnswersKeeping (s : State) (o : Next) : Prop := ∀ t, o = .next t → s.KeepsRequests t

theorem KeepsRequests.answers (h : s.KeepsRequests t) : s.AnswersKeeping (.next t) := by
  intro u hu
  cases hu
  exact h

theorem answersKeeping_refl (s : State) : s.AnswersKeeping (.next s) := (KeepsRequests.refl s).answers

/-- A command that changes a sweep engine but for its relay queue. -/
theorem answersKeeping_setSweep {g : Segment} {e : SweepEngine} (h : e.relays = (s.sweep g).relays) :
    s.AnswersKeeping (.next (s.setSweep g e)) := (keepsRequests_setSweep_of_relays h).answers

end State

open State

variable (s : State) (g : Segment)

theorem execZeroingDeadlineReached_keeps (n : Fin 128) :
    s.AnswersKeeping (execZeroingDeadlineReached n s) := by
  unfold execZeroingDeadlineReached
  split
  · exact s.answersKeeping_refl
  · exact (KeepsRequests.close .of_blocks _).answers

theorem execReplenishDeadlineReached_keeps (n : Fin 128) :
    s.AnswersKeeping (execReplenishDeadlineReached n s) := by
  unfold execReplenishDeadlineReached
  split
  · exact s.answersKeeping_refl
  · exact (KeepsRequests.close .of_blocks _).answers

theorem execHoldDeadlineReached_keeps : s.AnswersKeeping (execHoldDeadlineReached s) := by
  unfold execHoldDeadlineReached
  split
  · exact s.answersKeeping_refl
  · exact ((s.keepsRequests_elapse _).trans (keepsRequests_endHold _)).answers

theorem execNoticeSpacingElapsed_keeps : s.AnswersKeeping (execNoticeSpacingElapsed s) := by
  unfold execNoticeSpacingElapsed
  split
  · exact s.answersKeeping_refl
  · exact (s.keepsRequests_elapse _).answers

theorem execBeaconPhaseToggle_keeps (b : Fin 4) : s.AnswersKeeping (execBeaconPhaseToggle b s) := by
  unfold execBeaconPhaseToggle
  split
  · exact (KeepsRequests.of_blocks).answers
  · exact s.answersKeeping_refl
  · exact s.answersKeeping_refl

theorem execAkeyLevelChange_keeps (low : Bool) : s.AnswersKeeping (execAkeyLevelChange low s) := by
  unfold execAkeyLevelChange
  split
  · exact s.answersKeeping_refl
  · exact (KeepsRequests.of_blocks).answers

theorem execDebounceExpiry_keeps : s.AnswersKeeping (execDebounceExpiry s) := by
  unfold execDebounceExpiry
  split
  · exact s.answersKeeping_refl
  · exact ((s.keepsRequests_elapse _).trans (keepsRequests_takeKey _)).answers

theorem execHoldTimerExpiry_keeps : s.AnswersKeeping (execHoldTimerExpiry s) := by
  unfold execHoldTimerExpiry
  split
  · exact (KeepsRequests.trans .of_blocks (keepsRequests_toggleHold _)).answers
  · exact s.answersKeeping_refl
  · exact s.answersKeeping_refl

theorem execSweepTimerExpiry_keeps : s.AnswersKeeping (execSweepTimerExpiry g s) := by
  have relays (e : SweepEngine) (image : Image) : (e.expire image g).relays = e.relays := by
    unfold SweepEngine.expire
    split <;> rfl
  unfold execSweepTimerExpiry
  simp only
  split
  · split
    · exact s.answersKeeping_refl
    · exact answersKeeping_setSweep rfl
  · exact ((s.keepsRequests_elapse _).trans (keepsRequests_setSweep_of_relays (relays _ _))).answers

theorem execShelfTransmissionEnd_keeps : s.AnswersKeeping (execShelfTransmissionEnd g s) := by
  unfold execShelfTransmissionEnd
  split
  · exact s.answersKeeping_refl
  · split
    · exact answersKeeping_setSweep rfl
    all_goals exact s.answersKeeping_refl

theorem execReplyWindowExpiry_keeps : s.AnswersKeeping (execReplyWindowExpiry g s) := by
  unfold execReplyWindowExpiry
  split
  · exact s.answersKeeping_refl
  · split
    · exact (((s.keepsRequests_elapse _).trans (keepsRequests_endMissed _ g)).close _).answers
    all_goals exact s.answersKeeping_refl

theorem execReadingReceived_keeps (bytes : List Byte) :
    s.AnswersKeeping (execReadingReceived g bytes s) := by
  unfold execReadingReceived
  split
  · exact s.answersKeeping_refl
  · split
    · exact ((s.keepsRequests_endPoll g _ _).close s).answers
    · exact s.answersKeeping_refl

theorem execRelayAnswerReceived_keeps (bytes : List Byte) :
    s.AnswersKeeping (execRelayAnswerReceived g bytes s) := by
  unfold execRelayAnswerReceived
  split
  · exact s.answersKeeping_refl
  · split
    · exact s.answersKeeping_refl
    · split
      · exact ((s.keepsRequests_endRelay g _ _ _).close s).answers
      · exact s.answersKeeping_refl

theorem execShelfFrameDiscarded_keeps : s.AnswersKeeping (execShelfFrameDiscarded g s) := by
  unfold execShelfFrameDiscarded
  simp only
  split
  · exact answersKeeping_setSweep rfl
  · exact s.answersKeeping_refl

theorem execShelfReceptionBegins_keeps : s.AnswersKeeping (execShelfReceptionBegins g s) := by
  unfold execShelfReceptionBegins
  simp only
  split
  · exact answersKeeping_setSweep rfl
  · split
    · split
      · exact s.answersKeeping_refl
      · exact answersKeeping_setSweep rfl
    · exact s.answersKeeping_refl
    all_goals exact answersKeeping_setSweep rfl

variable {s} {t : State}

/-- Every command keeps requests, replies and relays consistent. -/
theorem exec_requestsConsistent (c : Instr) (h : s.RequestsConsistent) (ht : exec c s = .next t) :
    t.RequestsConsistent := by
  cases c with
  | coldStart =>
    cases ht
    exact .coldStart s
  | resolutionCompletes =>
    cases he : s.mgmt.engine with
    | committing tag r =>
      rw [exec_resolutionCompletes r he] at ht
      cases ht
      exact h.completed he
    | idle => simp only [exec, execResolutionCompletes, he] at ht; cases ht; exact h
    | restarting => simp only [exec, execResolutionCompletes, he] at ht; cases ht; exact h
  | buFrameReceived bytes =>
    cases ht
    split
    · exact h.routeDown _
    · exact s.keepsRequests_buFault.consistent h
  | bdFrameReceived bytes =>
    cases ht
    refine KeepsRequests.consistent ?_ h
    split
    · exact s.keepsRequests_forwardUp _
    · exact .of_blocks
  | bdTransmit =>
    cases ht
    refine KeepsRequests.consistent ?_ h
    split <;> exact .of_blocks
  | upstreamChoice =>
    cases ht
    exact h.chooseUpstream
  | zeroingDeadlineReached n => exact (execZeroingDeadlineReached_keeps s n t ht).consistent h
  | replenishDeadlineReached n => exact (execReplenishDeadlineReached_keeps s n t ht).consistent h
  | holdDeadlineReached => exact (execHoldDeadlineReached_keeps s t ht).consistent h
  | noticeSpacingElapsed => exact (execNoticeSpacingElapsed_keeps s t ht).consistent h
  | beaconPhaseToggle b => exact (execBeaconPhaseToggle_keeps s b t ht).consistent h
  | akeyLevelChange low => exact (execAkeyLevelChange_keeps s low t ht).consistent h
  | debounceExpiry => exact (execDebounceExpiry_keeps s t ht).consistent h
  | holdTimerExpiry => exact (execHoldTimerExpiry_keeps s t ht).consistent h
  | sweepTimerExpiry g => exact (execSweepTimerExpiry_keeps s g t ht).consistent h
  | shelfTransmissionEnd g => exact (execShelfTransmissionEnd_keeps s g t ht).consistent h
  | replyWindowExpiry g => exact (execReplyWindowExpiry_keeps s g t ht).consistent h
  | readingReceived g bytes => exact (execReadingReceived_keeps s g bytes t ht).consistent h
  | relayAnswerReceived g bytes => exact (execRelayAnswerReceived_keeps s g bytes t ht).consistent h
  | shelfFrameDiscarded g => exact (execShelfFrameDiscarded_keeps s g t ht).consistent h
  | shelfReceptionBegins g => exact (execShelfReceptionBegins_keeps s g t ht).consistent h
  | _ =>
    cases ht
    exact h.submit _

/-- Settles O58: every command keeps requests, replies and relays consistent, and so does the passing of time. -/
theorem stepKeepsRequestsConsistent : Obligations.StepKeepsRequestsConsistent := by
  intro s t h ht
  unfold step at ht
  split at ht
  · unfold idle at ht
    split at ht
    · exact exec_requestsConsistent _ h ht
    · cases ht
      exact (s.keepsRequests_elapse 1).consistent h
  · rename_i c rest _
    have dequeued : s.KeepsRequests { s with pending := rest } := .of_blocks
    exact exec_requestsConsistent c (dequeued.consistent h) ht

end Sys2Proof.Machine
end

section
/-! The frame codec (O29), and the ports that it serves: BD (O35) and BU (O31, O32, O34). -/

namespace Sys2Proof.Machine

/-! ### The codec (Table 8-5, R137) -/

/-- The body of a frame, byte by byte before its payload. -/
theorem Frame.body_eq (f : Frame) : f.body = f.kind :: byteOf (f.destination.toNat / 2 ^ 8)
    :: byteOf f.destination.toNat :: byteOf (f.source.toNat / 2 ^ 8) :: byteOf f.source.toNat :: f.tag
    :: byteOf f.payload.length :: f.payload := rfl

theorem Frame.length_body (f : Frame) : f.body.length = f.payload.length + 7 := by simp [Frame.body_eq]

theorem Frame.length_encode (f : Frame) : f.encode.length = f.payload.length + 9 := by
  simp [Frame.encode, Frame.length_body]

theorem ofNat_natOf_be2 (x : BitVec 16) : BitVec.ofNat 16 (natOf (be2 x.toNat)) = x := by
  rw [natOf_be2 x.isLt, BitVec.ofNat_toNat, BitVec.setWidth_eq]

/-- Sixteen bits read from two bytes spell those bytes. -/
theorem be2_ofNat_natOf (a b : Byte) : be2 (BitVec.ofNat 16 (natOf [a, b])).toNat = [a, b] := by
  have hlt : natOf [a, b] < 65536 := by
    have ha := a.isLt
    have hb := b.isLt
    simp only [natOf, List.foldl]
    omega
  rw [BitVec.toNat_ofNat, Nat.mod_eq_of_lt hlt, be2_natOf]

/-- The checks of R137, in their order. -/
theorem Frame.decode_eq_some {bytes : List Byte} {f : Frame} : Frame.decode bytes = some f ↔
    9 ≤ bytes.length ∧ bytes.length < Config.backboneCut ∧ byteAt bytes 6 ≤ Config.maxPayload
      ∧ bytes.length = 9 + byteAt bytes 6
      ∧ bytes.drop (bytes.length - 2) = be2 (crc16 bytes.dropLast.dropLast).toNat
      ∧ f = { kind := bytes.getD 0 0
              destination := BitVec.ofNat 16 (fieldAt bytes 1 2)
              source := BitVec.ofNat 16 (fieldAt bytes 3 2)
              tag := bytes.getD 5 0
              payload := bytes.dropLast.dropLast.drop 7 } := by
  simp [Frame.decode, and_assoc, eq_comm (a := f)]

theorem dropLast_dropLast_append_pair {α : Type} (l : List α) (a b : α) :
    (l ++ [a, b]).dropLast.dropLast = l := by
  rw [show l ++ [a, b] = l ++ [a] ++ [b] by simp, List.dropLast_concat, List.dropLast_concat]

/-- A frame with a payload that fits passes the checks as the frame it is. -/
theorem Frame.decode_encode (f : Frame) (h : f.payload.length ≤ 56) : Frame.decode f.encode = some f := by
  have crc : f.encode.drop (f.encode.length - 2) = be2 (crc16 f.body).toNat := by
    rw [Frame.length_encode, show f.payload.length + 9 - 2 = f.body.length by rw [Frame.length_body]; omega,
      Frame.encode, List.drop_left]
  have body : f.encode.dropLast.dropLast = f.body := dropLast_dropLast_append_pair _ _ _
  have length : byteAt f.encode 6 = f.payload.length := toNat_byteOf (by omega)
  rw [Frame.decode_eq_some, crc, body, length, Frame.length_encode]
  refine ⟨by omega, by simp only [Config.backboneCut]; omega, h, by omega, rfl, ?_⟩
  have destination : fieldAt f.encode 1 2 = natOf (be2 f.destination.toNat) := rfl
  have source : fieldAt f.encode 3 2 = natOf (be2 f.source.toNat) := rfl
  rw [destination, source, ofNat_natOf_be2, ofNat_natOf_be2]
  rfl

theorem exists_append_pair {α : Type} {l : List α} (h : 2 ≤ l.length) : ∃ m a b, l = m ++ [a, b] := by
  obtain ⟨a, b, hab⟩ := List.length_eq_two.1 (show (l.drop (l.length - 2)).length = 2 by simp; omega)
  exact ⟨l.take (l.length - 2), a, b, by rw [← hab, List.take_append_drop]⟩

/-- What passes the checks is the encoding of the frame it gives. -/
theorem Frame.encode_of_decode {bytes : List Byte} {f : Frame} (h : Frame.decode bytes = some f) :
    bytes = f.encode ∧ f.payload.length ≤ 56 := by
  obtain ⟨hmin, -, hmax, hlen, hcrc, rfl⟩ := Frame.decode_eq_some.1 h
  obtain ⟨body, c1, c2, rfl⟩ := exists_append_pair (Nat.le_of_lt_succ (by omega : 2 < bytes.length + 1))
  have hdrop : (body ++ [c1, c2]).drop ((body ++ [c1, c2]).length - 2) = [c1, c2] := by simp
  rw [dropLast_dropLast_append_pair] at *
  rw [hdrop] at hcrc
  match body, hmin with
  | k :: d1 :: d2 :: s1 :: s2 :: tag :: n :: payload, hmin =>
    have hn : n.toNat = payload.length := by
      have hlen' : payload.length + 2 + 7 = 9 + n.toNat := by simpa using hlen
      omega
    refine ⟨?_, hn ▸ hmax⟩
    have destination := be2_ofNat_natOf d1 d2
    have source := be2_ofNat_natOf s1 s2
    have encoded : (Frame.body ⟨k, BitVec.ofNat 16 (natOf [d1, d2]), BitVec.ofNat 16 (natOf [s1, s2]), tag,
        payload⟩) = k :: d1 :: d2 :: s1 :: s2 :: tag :: n :: payload := by
      simp only [Frame.body, destination, source, ← hn, byteOf_toNat]
      rfl
    rw [hcrc]
    exact congrArg (fun b => b ++ be2 (crc16 b).toNat) encoded.symm

/-- Settles O29: the checks read back each field that was encoded, and their bytes are only those fields'. -/
theorem frameCodecRoundTrips : Obligations.FrameCodecRoundTrips :=
  ⟨Frame.decode_encode, fun _ _ => Frame.encode_of_decode⟩

/-! ### The BD port -/

/-- Settles O35: a frame passes the checks as itself, and the FIFOs are read off. -/
theorem bdPortForwards : Obligations.BdPortForwards := by
  refine fun s => ⟨fun f hf => ?_, fun bytes hb => ?_, fun f rest hfifo => ?_, fun hfifo => ?_⟩
  · simp only [exec, execBdFrameReceived, Frame.decode_encode f hf]
    rfl
  · simp only [exec, execBdFrameReceived, hb]
    rfl
  · simp only [exec, execBdTransmit, hfifo]
  · simp only [exec, execBdTransmit, hfifo]

/-! ### Where a frame at BU goes (R137, R138, R145) -/

namespace State

variable {s : State} {f : Frame}

theorem exec_buFrame (h : f.payload.length ≤ 56) :
    exec (.buFrameReceived f.encode) s = .next (s.routeDown f) := by
  simp only [exec, execBuFrameReceived, Frame.decode_encode f h]

theorem exec_buRejected {bytes : List Byte} (h : Frame.decode bytes = none) :
    exec (.buFrameReceived bytes) s = .next s.buFaulted := by
  simp only [exec, execBuFrameReceived, h]
  rfl

/-- An unassigned station forwards all but a well-formed ENUMERATE for all stations. -/
theorem routeDown_unassigned (ha : s.backbone.address = none) (hf : isEnumerate f = false) :
    s.routeDown f = s.forwarded f := by
  simp only [routeDown, ha, routeUnassigned, hf]
  rfl

theorem isEnumerate_eq_false :
    isEnumerate f = false ↔ f.destination ≠ 0xFFFF ∨ f.kind ≠ 0x56 ∨ f.payload.length ≠ 2 := by
  simp only [isEnumerate, Bool.and_eq_false_iff, beq_eq_false_iff_ne, or_assoc]
  rfl

theorem routeDown_beyond (hd : f.destination ≠ 0xFFFF) (ha : s.backbone.address ≠ some f.destination) :
    s.routeDown f = s.forwarded f := by
  cases hs : s.backbone.address with
  | none => exact routeDown_unassigned hs (isEnumerate_eq_false.2 (.inl hd))
  | some a =>
    have hne : f.destination ≠ a := fun h => ha (h ▸ hs)
    simp only [routeDown, hs]
    exact (if_neg hd).trans (if_neg hne)

theorem routeDown_own (hd : f.destination ≠ 0xFFFF) (ha : s.backbone.address = some f.destination) :
    s.routeDown f = s.routeOwn f := by
  simp only [routeDown, ha, if_true]
  exact if_neg hd

theorem routeDown_all {a : BitVec 16} (hd : f.destination = 0xFFFF) (ha : s.backbone.address = some a) :
    s.routeDown f = s.routeAll a f := by
  simp only [routeDown, ha]
  exact if_pos hd

/-- A frame for this station that is neither a MANAGE nor a TIME of four bytes counts a fault (R139). -/
theorem routeOwn_fault (hm : f.kind ≠ 0x51) (ht : f.kind ≠ 0x55 ∨ f.payload.length ≠ 4) :
    s.routeOwn f = s.buFaulted := by
  refine (if_neg hm).trans ?_
  by_cases hk : f.kind = 0x55
  · exact (if_pos hk).trans (if_neg (ht.resolve_left (not_not.2 hk)))
  · exact if_neg hk

theorem routeAll_other {a : BitVec 16} (hm : f.kind ≠ 0x51) (ht : f.kind ≠ 0x55) (he : f.kind ≠ 0x56) :
    s.routeAll a f = s.forwarded f :=
  (if_neg hm).trans ((if_neg ht).trans (if_neg he))

/-- A TIME or ENUMERATE of a wrong length counts a fault and goes on (R139). -/
theorem routeAll_wrongLength {a : BitVec 16}
    (h : f.kind = 0x55 ∧ f.payload.length ≠ 4 ∨ f.kind = 0x56 ∧ f.payload.length ≠ 2) :
    s.routeAll a f = s.buFaulted.forwarded f := by
  rcases h with ⟨hk, hl⟩ | ⟨hk, hl⟩ <;> simp only [routeAll, hk, if_neg hl] <;> rfl

end State

open State

/-- Settles O32, by the destination, the kind and the length. -/
theorem buReceptionIsRouted : Obligations.BuReceptionIsRouted := by
  refine fun s => ⟨fun bytes hb => exec_buRejected hb, fun f hf hd ha => ?_, fun f hf hd ha hm ht => ?_,
    fun f hf hd ha => ?_, fun f hf hd ha he => ?_⟩ <;> simp only [exec_buFrame hf]
  · rw [routeDown_beyond hd ha]
  · rw [routeDown_own hd ha, routeOwn_fault hm ht]
  · obtain ⟨a, ha⟩ := Option.isSome_iff_exists.1 ha
    rw [routeDown_all hd ha]
    exact ⟨fun hm ht he => by rw [routeAll_other hm ht he], fun h => by rw [routeAll_wrongLength h]⟩
  · rw [routeDown_unassigned ha (isEnumerate_eq_false.2 (.inr he))]

/-! ### MANAGE (R138, R154) -/

/-- Settles O31: a MANAGE frame is the delivery of its payload, which the request commands stand for (log 1). -/
theorem manageFrameIsItsRequest : Obligations.ManageFrameIsItsRequest := by
  refine ⟨fun s tag fields => ⟨fun code => by cases code <;> rfl, rfl, rfl, rfl, rfl⟩,
    fun s a src tag ha hne => ?_⟩
  have assigned : s.backbone.address.isSome = true := by simp [ha]
  have submitted (q : Request) : s.submit q = s.deliver q := if_pos assigned
  have own (payload : List Byte) (hp : payload.length ≤ 56) :
      exec (.buFrameReceived (Frame.encode ⟨0x51, a, src, tag, payload⟩)) s =
        exec (.unknownRequest tag payload) s := by
    rw [exec_buFrame hp, routeDown_own hne ha]
    exact congrArg Host.Outcome.next (submitted ⟨tag, false, payload⟩).symm
  refine ⟨fun code fields hf => ?_, own, fun payload hp => ⟨_, _, rfl, exec_buFrame hp, ?_⟩⟩
  · rw [own (code.byte :: fields) (Nat.succ_le_succ hf)]
    cases code <;> rfl
  · rw [routeDown_all rfl ha, submitted]
    rfl

/-! ### ENUMERATE (R147, R148) -/

namespace State

variable {s : State} {f : Frame}

/-- An unassigned station takes the address that the frame carries (R147). -/
theorem routeUnassigned_addressed (hf : isEnumerate f = true) (h1 : 1 ≤ enumerateNext f)
    (h999 : enumerateNext f ≤ 999) : s.routeUnassigned f =
      ({ s with backbone := { s.backbone with
        address := some (BitVec.ofNat 16 (enumerateNext f)) } } : State).forwarded
          (withNext f (if enumerateNext f = 999 then 0 else enumerateNext f + 1)) := by
  simp only [routeUnassigned, hf, h1, h999, decide_true, Bool.and_self, if_true]
  rfl

theorem routeUnassigned_passed (h : enumerateNext f = 0 ∨ 1000 ≤ enumerateNext f) :
    s.routeUnassigned f = s.forwarded f := by
  have hn : (decide (1 ≤ enumerateNext f) && decide (enumerateNext f ≤ 999)) = false := by
    simp only [Bool.and_eq_false_iff, decide_eq_false_iff_not]
    omega
  simp only [routeUnassigned, hn, ite_self, Bool.false_eq_true, if_false]
  rfl

/-- An assigned station raises the next field to the number after its own address (R148). -/
theorem routeAll_enumerate {a : BitVec 16} (hk : f.kind = 0x56) (hl : f.payload.length = 2) :
    s.routeAll a f =
      s.forwarded (if enumerateNext f < a.toNat + 1 then withNext f (a.toNat + 1) else f) := by
  simp only [routeAll, hk, hl, if_true]
  rfl

end State

/-- Settles O34, by whether the station is assigned and where the next field lies. -/
theorem enumerateGivesAddresses : Obligations.EnumerateGivesAddresses := by
  intro s src tag next hnext frame forwarded command
  have hfield : enumerateNext (frame next) = next := natOf_be2 hnext
  have exec_eq : exec command s = .next (s.routeDown (frame next)) :=
    exec_buFrame (f := frame next) (Nat.le_of_ble_eq_true rfl)
  have readdressed {a : Option (BitVec 16)} (ha : s.backbone.address = a) (n : Nat) :
      s.forwarded (frame n) = forwarded a n := by
    rw [← ha]
    rfl
  refine ⟨fun ha => ?_, fun a ha _ => ?_⟩
  · have routed : s.routeDown (frame next) = s.routeUnassigned (frame next) := by simp only [routeDown, ha]
    rw [exec_eq, routed]
    refine ⟨fun h1 h998 => ?_, fun h999 => ?_, fun h => ?_⟩
    · rw [routeUnassigned_addressed rfl (hfield.symm ▸ h1) (by omega), hfield, if_neg (by omega)]
      rfl
    · subst h999
      rw [routeUnassigned_addressed rfl (by omega) (by omega), hfield]
      rfl
    · rw [routeUnassigned_passed (by omega), readdressed ha]
  · rw [exec_eq, routeDown_all rfl ha, routeAll_enumerate rfl rfl, hfield]
    refine ⟨fun hlt => ?_, fun hle => ?_⟩
    · rw [if_pos hlt]
      exact congrArg Host.Outcome.next (readdressed ha _)
    · rw [if_neg (Nat.not_lt.2 hle), readdressed ha]

end Sys2Proof.Machine
end

section
/-! TIME (O33): the clock is set, and each deadline that it then has reached is taken. -/

namespace Sys2Proof.Machine

/-! ### One lane (R15, R72, R73) -/

section Timed
variable {now : Clock} {l : Lane} {d : Clock}

/-- A reached zeroing deadline ends zeroing (R15). -/
theorem Lane.zeroingTimed_of_reached (hd : l.zeroDeadline = some d) (hr : 0 ≤ (now - d).toInt) :
    l.zeroingTimed now = { l with
      zeroDeadline := none, zeroResult := some .timeout, kinds := { l.kinds with zero := true } } := by
  simp only [Lane.zeroingTimed, hd]
  exact if_pos (decide_eq_true hr)

theorem Lane.zeroingTimed_of_not_reached (h : ¬ ∃ d, l.zeroDeadline = some d ∧ 0 ≤ (now - d).toInt) :
    l.zeroingTimed now = l := by
  unfold Lane.zeroingTimed
  split
  · rename_i d hd
    exact if_neg fun hr => h ⟨d, hd, of_decide_eq_true hr⟩
  · rfl

/-- A reached replenish deadline clears (R72). -/
theorem Lane.replenishTimed_of_reached (hd : l.replenishDeadline = some d) (hr : 0 ≤ (now - d).toInt) :
    l.replenishTimed now = { l with replenishDeadline := none } := by
  simp only [Lane.replenishTimed, hd]
  exact if_pos (decide_eq_true hr)

theorem Lane.replenishTimed_of_not_reached
    (h : ¬ ∃ d, l.replenishDeadline = some d ∧ 0 ≤ (now - d).toInt) : l.replenishTimed now = l := by
  unfold Lane.replenishTimed
  split
  · rename_i d hd
    exact if_neg fun hr => h ⟨d, hd, of_decide_eq_true hr⟩
  · rfl

/-- A deadline taken writes its own fields of the record alone. -/
theorem Lane.zeroingTimed_frame (now : Clock) (l : Lane) : l.zeroingTimed now = { l with
    zeroDeadline := (l.zeroingTimed now).zeroDeadline
    zeroResult := (l.zeroingTimed now).zeroResult
    kinds := (l.zeroingTimed now).kinds } := by
  unfold Lane.zeroingTimed
  split
  · split_ifs <;> rfl
  · rfl

theorem Lane.replenishTimed_frame (now : Clock) (l : Lane) : l.replenishTimed now = { l with
    replenishDeadline := (l.replenishTimed now).replenishDeadline } := by
  unfold Lane.replenishTimed
  split
  · split_ifs <;> rfl
  · rfl

end Timed

/-- An event that leaves the band and the state of a lane is judged where a freeze ends with it (R66, R70). -/
theorem Lane.judge_of_kept {groups : Table Group 16} {now : Clock} {hold hold' : Bool} {l k : Lane}
    (hb : k.band = l.band) (hs : k.state = l.state) : Lane.judge groups now hold hold' l k =
      if l.state ≠ .unbound ∧ l.state ≠ .acquiring ∧ (l.replenishDeadline.isSome = true ∨ hold = true)
        ∧ k.replenishDeadline = none ∧ hold' = false
      then k.freezeEnded (groups.get k.config.group) now else k := by
  have frozen : ¬ k.frozen hold' = true ↔
      k.replenishDeadline = none ∧ hold' = false ∧ l.state ≠ .acquiring := by
    rw [Bool.not_eq_true, Lane.frozen_eq_false, hs]
  have triggered : Lane.triggered hold l k = true ↔ l.frozen hold = true ∧ l.state.judged = true := by
    rw [Lane.triggered_iff, hb, hs]
    grind
  rw [Lane.frozen_iff, LaneState.judged_iff] at triggered
  split_ifs with h
  · refine Lane.judge_of_triggered ?_ ?_ <;> grind
  · by_cases hf : k.frozen hold' = true
    · exact Lane.judge_of_frozen hf
    · refine Lane.judge_of_not_triggered ?_
      grind

/-! ### The station (R150) -/

namespace State

variable {s : State} {v : Clock}

/-- Aisle hold stays exactly where its deadline is not reached (R101). -/
theorem takeHold_eq_some {hold : Option Clock} {d : Clock} :
    takeHold v hold = some d ↔ hold = some d ∧ (v - d).toInt < 0 := by
  cases hold with
  | none => simp [takeHold]
  | some x =>
    simp only [takeHold, reached, decide_eq_true_eq, Option.some.injEq]
    split_ifs with h
    · simp only [false_iff, not_and, not_lt]
      rintro rfl
      exact h
    · simp only [Option.some.injEq, iff_self_and]
      rintro rfl
      exact not_le.1 h

/-- The station with the clock set, before the lanes take their deadlines. -/
def clockSet (s : State) (v : Clock) : State := { s with
  backbone := { s.backbone with clock := v }
  notice := { s.notice with holdDeadline := takeHold v s.notice.holdDeadline } }

theorem setClock_self : s.setClock s.backbone.clock = s := if_pos rfl

theorem setClock_of_ne (h : v ≠ s.backbone.clock) : s.setClock v = close s { s.clockSet v with
    lanes := s.lanes.map (fun l => Lane.judge s.notice.groups v s.holding
      (takeHold v s.notice.holdDeadline).isSome l (takeDeadlines v l)) } := if_neg h

theorem setClock_holdDeadline (h : v ≠ s.backbone.clock) :
    (s.setClock v).notice.holdDeadline = takeHold v s.notice.holdDeadline := by
  rw [setClock_of_ne h, close_notice]
  rfl

theorem setClock_sameButLanes (h : v ≠ s.backbone.clock) : (s.clockSet v).SameButLanes (s.setClock v) := by
  rw [setClock_of_ne h]
  exact close_withLanes (after := s.clockSet v) rfl _

theorem setClock_lane (h : v ≠ s.backbone.clock) (n : Fin 128) : (s.setClock v).lanes.get n =
    Lane.settleDue v (s.lanes.get n) (Lane.judge s.notice.groups v s.holding
      (takeHold v s.notice.holdDeadline).isSome (s.lanes.get n) (takeDeadlines v (s.lanes.get n))) := by
  rw [setClock_of_ne h, close_lane, Table.get_map]
  rfl

/-- A TIME frame sets the clock to the value that it carries (R138, R150). -/
theorem exec_time {a : BitVec 16} (ha : s.backbone.address = some a) (hne : a ≠ 0xFFFF)
    (src : BitVec 16) (tag : Byte) (v : Clock) :
    exec (.buFrameReceived (Frame.encode ⟨0x55, a, src, tag, be4 v.toNat⟩)) s = .next (s.setClock v)
      ∧ exec (.buFrameReceived (Frame.encode ⟨0x55, 0xFFFF, src, tag, be4 v.toNat⟩)) s =
        .next ((s.setClock v).forwarded ⟨0x55, 0xFFFF, src, tag, be4 v.toNat⟩) := by
  have value : BitVec.ofNat 32 (natOf (be4 v.toNat)) = v := by
    rw [natOf_be4 v.isLt, BitVec.ofNat_toNat, BitVec.setWidth_eq]
  have short : (be4 v.toNat).length ≤ 56 := Nat.le_of_ble_eq_true rfl
  have own : s.routeOwn ⟨0x55, a, src, tag, be4 v.toNat⟩ =
      s.setClock (BitVec.ofNat 32 (natOf (be4 v.toNat))) := rfl
  have all : s.routeAll a ⟨0x55, 0xFFFF, src, tag, be4 v.toNat⟩ =
      (s.setClock (BitVec.ofNat 32 (natOf (be4 v.toNat)))).forwarded ⟨0x55, 0xFFFF, src, tag, be4 v.toNat⟩ :=
    rfl
  rw [exec_buFrame short, exec_buFrame short, routeDown_own hne ha, routeDown_all rfl ha, own, all, value]
  exact ⟨rfl, rfl⟩

end State

open State

/-- Settles O33: the clock with its hold deadline, and each lane's deadlines before it is judged. -/
theorem timeFrameSetsClock : Obligations.TimeFrameSetsClock := by
  intro s a src tag v ha hne own all
  obtain ⟨exec_own, exec_all⟩ := exec_time ha hne src tag v
  refine ⟨s.setClock v, exec_own, exec_all, fun hv => hv ▸ setClock_self, fun hv =>
    ⟨?_, fun d => ?_, fun n => ?_⟩⟩
  · rw [setClock_holdDeadline hv]
    exact setClock_sameButLanes hv
  · rw [setClock_holdDeadline hv]
    exact takeHold_eq_some
  · intro l zeroOut replenishOut
    have zeroed := Lane.zeroingTimed_frame v l
    have kept : (l.zeroingTimed v).replenishDeadline = l.replenishDeadline := by rw [zeroed]
    refine ⟨l.zeroingTimed v, takeDeadlines v l, _, fun ⟨d, hd, hr⟩ => Lane.zeroingTimed_of_reached hd hr,
      Lane.zeroingTimed_of_not_reached, fun ⟨d, hd, hr⟩ => Lane.replenishTimed_of_reached (kept.trans hd) hr,
      fun hr => Lane.replenishTimed_of_not_reached (kept.symm ▸ hr), rfl, ?_⟩
    have taken := Lane.replenishTimed_frame v (l.zeroingTimed v)
    have config : (takeDeadlines v l).config = l.config := by
      rw [takeDeadlines_eq, taken, zeroed]
    rw [setClock_lane hv, setClock_holdDeadline hv, Lane.judge_of_kept (by rw [takeDeadlines_eq, taken, zeroed])
      (by rw [takeDeadlines_eq, taken, zeroed]), config]
    simp only [Option.isSome_eq_false_iff, Option.isNone_iff_eq_none]
    rfl

end Sys2Proof.Machine
end

section
/-! Requests that wait their turn (O6), and the upstream arbiter's take of forwarded frames (O36). -/

namespace Sys2Proof.Machine

namespace State

variable {s : State} {q : Request}

/-! ### A request that the engine may not take (R154, R155) -/

/-- It joins the intake FIFO, or is dropped at a full one with its flag set. -/
theorem submit_waiting (ha : s.backbone.address.isSome = true)
    (hw : s.mgmt.engine ≠ .idle ∨ s.mgmt.reply ≠ none) : s.submit q =
      if s.mgmt.intake.length < 4 then
        { s with mgmt := { s.mgmt with intake := s.mgmt.intake ++ [q] } }
      else { s with mgmt := { s.mgmt with
        requestOverrun := s.mgmt.requestOverrun || !q.broadcast
        missedBroadcast := s.mgmt.missedBroadcast || q.broadcast } } := by
  have waits : ({ s with mgmt := { s.mgmt with intake := s.mgmt.intake ++ [q] } } : State).ready = false :=
    ready_eq_false.2 hw
  rw [submit, if_pos ha, deliver, takeRequests, takeUpTo_of_not_ready waits]
  rfl

/-- A command that stands for the delivery of `q` does what `Obligations.RequestsWaitTheirTurn` says. -/
theorem submit_arrives {c : Instr} (hc : exec c s = .next (s.submit q)) :
    (s.backbone.address = none → exec c s = .next s)
    ∧ (s.backbone.address.isSome = true → (s.mgmt.engine ≠ .idle ∨ s.mgmt.reply ≠ none) →
      (s.mgmt.intake.length < 4 →
        exec c s = .next { s with mgmt := { s.mgmt with intake := s.mgmt.intake ++ [q] } })
      ∧ (4 ≤ s.mgmt.intake.length → q.broadcast = false →
        exec c s = .next { s with mgmt := { s.mgmt with requestOverrun := true } })
      ∧ (4 ≤ s.mgmt.intake.length → q.broadcast = true →
        exec c s = .next { s with mgmt := { s.mgmt with missedBroadcast := true } })) := by
  rw [hc]
  refine ⟨fun ha => by rw [submit_unassigned ha], fun ha hw => ?_⟩
  rw [submit_waiting ha hw]
  refine ⟨fun room => by rw [if_pos room], fun full hq => ?_, fun full hq => ?_⟩
  · rw [if_neg (Nat.not_lt.2 full), hq, Bool.not_false, Bool.or_true, Bool.or_false]
  · rw [if_neg (Nat.not_lt.2 full), hq, Bool.not_true, Bool.or_true, Bool.or_false]

end State

open State

/-- Settles O6: each command stands for one delivery, which waits or is dropped. -/
theorem requestsWaitTheirTurn : Obligations.RequestsWaitTheirTurn :=
  fun _ _ => ⟨fun code _ => submit_arrives (by cases code <;> rfl), fun _ => submit_arrives rfl,
    fun _ => ⟨submit_arrives rfl, submit_arrives rfl, submit_arrives rfl, submit_arrives rfl⟩,
    fun _ => submit_arrives rfl⟩

/-! ### The local sources of the arbiter (R143, R145) -/

namespace State

variable {s : State}

/-- The Notice Unit offers exactly where R91 says. -/
theorem offersNotice_iff : s.offersNotice = true ↔ s.NoticeOffers := by
  refine ⟨fun h => ?_, NoticeOffers.offersNotice⟩
  simp only [State.offersNotice, Bool.and_eq_true, beq_iff_eq, Bool.not_eq_true',
    List.isEmpty_eq_false_iff] at h
  obtain ⟨⟨⟨hon, helapsed⟩, hqueue⟩, haddress⟩ := h
  refine ⟨hon, hqueue, haddress, fun e he => ?_⟩
  simpa [spacingElapsed, he] using helapsed

theorem takeLocal_unassigned (h : s.backbone.address = none) : s.takeLocal = none := by
  simp [takeLocal, h]

variable {a : BitVec 16}

theorem takeLocal_reply {r : Reply} (ha : s.backbone.address = some a) (hr : s.mgmt.reply = some r) :
    s.takeLocal = some (s.takeReply r) := by
  simp [takeLocal, ha, hr]

theorem takeLocal_relay {g : Segment} {r : Relay} (ha : s.backbone.address = some a)
    (hr : s.mgmt.reply = none) (he : s.endedRelay = some (g, r)) :
    s.takeLocal = some (s.takeRelay g r) := by
  simp [takeLocal, ha, hr, he]

/-- With no REPLY, no ended relay and no notice on offer the mirror slot is the only source left. -/
theorem takeLocal_mirror (ha : s.backbone.address = some a) (hr : s.mgmt.reply = none)
    (he : s.NoEndedRelay) (hn : ¬ s.NoticeOffers) :
    s.takeLocal = s.backbone.mirror.map s.takeMirror := by
  have hoffers : s.offersNotice = false := by rwa [← Bool.not_eq_true, offersNotice_iff]
  simp [takeLocal, ha, hr, he.endedRelay, hoffers]

theorem takeLocal_none (h : s.backbone.address = none ∨ (s.mgmt.reply = none ∧ s.NoEndedRelay
    ∧ ¬ s.NoticeOffers ∧ s.backbone.mirror = none)) : s.takeLocal = none := by
  rcases h with h | ⟨hr, he, hn, hm⟩
  · exact takeLocal_unassigned h
  · cases ha : s.backbone.address with
    | none => exact takeLocal_unassigned ha
    | some a => rw [takeLocal_mirror ha hr he hn, hm, Option.map_none]

theorem takeUp_eq (f : Frame) (rest : List Frame) : s.takeUp f rest =
    { s with backbone := { s.backbone with
      upFifo := rest
      buTx := some f
      streak := if rest = [] then 0 else min 8 (s.backbone.streak + 1) } } := by
  cases rest <;> rfl

end State

/-- Settles O36: below the burst the up FIFO is taken first, and with no local offer it alone offers. -/
theorem arbiterTakesForwardedFrame : Obligations.ArbiterTakesForwardedFrame := by
  refine fun s => ⟨fun f rest hfifo hturn => ?_, fun hfifo hlocal => ?_⟩ <;>
    simp only [exec, execUpstreamChoice, chooseUpstream, hfifo]
  · have taken : (if s.backbone.streak < s.mgmt.settings.burst then s.takeUp f rest
        else s.takeLocal.getD (s.takeUp f rest)) = s.takeUp f rest := by
      rcases hturn with hbelow | hlocal
      · exact if_pos hbelow
      · rw [takeLocal_none hlocal, Option.getD_none, ite_self]
    rw [taken, takeUp_eq]
  · rw [takeLocal_none hlocal, Option.getD_none]

end Sys2Proof.Machine
end

section
/-! Timed commands of an idle step (O2): the fixed order of log 2 as ranks, and the due command as the one of the
lowest rank. -/

namespace Sys2Proof.Machine

/-! ### The timed commands by rank -/

/-- The place of a timed command in the fixed order of log 2, which has 267 places. -/
def timedRank : Instr → Nat
  | .replyWindowExpiry g => g.code
  | .sweepTimerExpiry g => 2 + g.code
  | .debounceExpiry => 4
  | .holdTimerExpiry => 5
  | .holdDeadlineReached => 6
  | .zeroingDeadlineReached n => 7 + n.val
  | .replenishDeadlineReached n => 135 + n.val
  | .beaconPhaseToggle b => 263 + b.val
  | _ => 267

/-- The timed command at a place of the order. -/
def timedAt : Nat → Instr
  | 0 => .replyWindowExpiry .a
  | 1 => .replyWindowExpiry .b
  | 2 => .sweepTimerExpiry .a
  | 3 => .sweepTimerExpiry .b
  | 4 => .debounceExpiry
  | 5 => .holdTimerExpiry
  | 6 => .holdDeadlineReached
  | k + 7 =>
    if h : k < 128 then .zeroingDeadlineReached ⟨k, h⟩
    else if h : k - 128 < 128 then .replenishDeadlineReached ⟨k - 128, h⟩
    else .beaconPhaseToggle (Fin.ofNat 4 (k - 256))

/-- No two timed commands share a place. -/
theorem timedAt_timedRank {c : Instr} (h : timedRank c < 267) : timedAt (timedRank c) = c := by
  cases c with
  | replyWindowExpiry g => cases g <;> rfl
  | sweepTimerExpiry g => cases g <;> rfl
  | debounceExpiry => rfl
  | holdTimerExpiry => rfl
  | holdDeadlineReached => rfl
  | zeroingDeadlineReached n =>
    rw [timedRank, Nat.add_comm, timedAt, dif_pos n.isLt]
  | replenishDeadlineReached n =>
    have hn := n.isLt
    rw [timedRank, show 135 + n.val = n.val + 128 + 7 by omega, timedAt, dif_neg (by omega),
      dif_pos (by omega)]
    simp
  | beaconPhaseToggle b =>
    have hb := b.isLt
    rw [timedRank, show 263 + b.val = b.val + 256 + 7 by omega, timedAt, dif_neg (by omega),
      dif_neg (by omega)]
    simp
  | _ => exact absurd h (Nat.lt_irrefl _)

/-- The measure of a timed command is complete at `s`, by the model's tests. -/
def State.measured (s : State) : Instr → Bool
  | .replyWindowExpiry g => (s.sweep g).windowDue
  | .sweepTimerExpiry g => (s.sweep g).timerDue (s.mgmt.settings.period g)
  | .debounceExpiry => (match s.notice.debounce with
    | some e => Config.debounceTime ≤ e
    | none => false)
  | .holdTimerExpiry => (match s.notice.key with
    | .pressed e => Config.holdTime ≤ e
    | .idle | .long => false)
  | .holdDeadlineReached => deadlineDue s.now s.notice.holdDeadline
  | .zeroingDeadlineReached n => deadlineDue s.now (s.lanes.get n).zeroDeadline
  | .replenishDeadlineReached n => deadlineDue s.now (s.lanes.get n).replenishDeadline
  | .beaconPhaseToggle b => (s.notice.beacons.get b).phaseDue
  | _ => false

theorem State.measured_debounce {s : State} :
    s.measured .debounceExpiry = true ↔ ∃ e, s.notice.debounce = some e ∧ 20 ≤ e := by
  unfold State.measured
  cases s.notice.debounce with
  | none => simp
  | some e =>
    refine ⟨fun h => ⟨e, rfl, of_decide_eq_true h⟩, ?_⟩
    rintro ⟨_, ⟨⟩, h⟩
    exact decide_eq_true h

theorem State.measured_holdTimer {s : State} :
    s.measured .holdTimerExpiry = true ↔ ∃ e, s.notice.key = .pressed e ∧ 4000 ≤ e := by
  unfold State.measured
  cases s.notice.key with
  | idle => simp
  | long => simp
  | pressed e =>
    refine ⟨fun h => ⟨e, rfl, of_decide_eq_true h⟩, ?_⟩
    rintro ⟨_, ⟨⟩, h⟩
    exact decide_eq_true h

/-- The statement's timed commands are those that the model tests, each at its place. -/
theorem timedDue_iff {s : State} {k : Nat} {c : Instr} :
    TimedDue s k c ↔ s.measured c = true ∧ k = timedRank c := by
  constructor
  · intro h
    refine ⟨?_, by cases h <;> rfl⟩
    cases h with
    | window g v e l hv hs hle => exact SweepEngine.windowDue_iff.2 ⟨v, e, l, hv, hs, hle⟩
    | sweepTimer g he hp => exact SweepEngine.timerDue_iff.2 (.inl ⟨he, hp⟩)
    | sweepStart g he hv => exact SweepEngine.timerDue_iff.2 (.inr ⟨he, hv⟩)
    | debounce e he hle => exact State.measured_debounce.2 ⟨e, he, hle⟩
    | holdTimer e he hle => exact State.measured_holdTimer.2 ⟨e, he, hle⟩
    | holdDeadline d hd hle => exact deadlineDue_iff.2 ⟨d, hd, hle⟩
    | zeroing n d hd hle => exact deadlineDue_iff.2 ⟨d, hd, hle⟩
    | replenish n d hd hle => exact deadlineDue_iff.2 ⟨d, hd, hle⟩
    | beacon b high e hb hle => exact Beacon.phaseDue_iff.2 ⟨high, e, hb, hle⟩
  · rintro ⟨h, rfl⟩
    cases c with
    | replyWindowExpiry g =>
      obtain ⟨v, e, l, hv, hs, hle⟩ := SweepEngine.windowDue_iff.1 h
      exact .window g v e l hv hs hle
    | sweepTimerExpiry g =>
      rcases SweepEngine.timerDue_iff.1 h with ⟨he, hp⟩ | ⟨he, hv⟩
      · exact .sweepTimer g he hp
      · exact .sweepStart g he hv
    | debounceExpiry =>
      obtain ⟨e, he, hle⟩ := State.measured_debounce.1 h
      exact .debounce e he hle
    | holdTimerExpiry =>
      obtain ⟨e, he, hle⟩ := State.measured_holdTimer.1 h
      exact .holdTimer e he hle
    | holdDeadlineReached =>
      obtain ⟨d, hd, hle⟩ := deadlineDue_iff.1 h
      exact .holdDeadline d hd hle
    | zeroingDeadlineReached n =>
      obtain ⟨d, hd, hle⟩ := deadlineDue_iff.1 h
      exact .zeroing n d hd hle
    | replenishDeadlineReached n =>
      obtain ⟨d, hd, hle⟩ := deadlineDue_iff.1 h
      exact .replenish n d hd hle
    | beaconPhaseToggle b =>
      obtain ⟨high, e, hb, hle⟩ := Beacon.phaseDue_iff.1 h
      exact .beacon b high e hb hle
    | _ => cases h

/-- The ranks of timed commands are below 267. -/
theorem timedRank_lt {s : State} {c : Instr} (h : s.measured c = true) : timedRank c < 267 := by
  cases c with
  | replyWindowExpiry g => cases g <;> decide
  | sweepTimerExpiry g => cases g <;> decide
  | debounceExpiry => decide
  | holdTimerExpiry => decide
  | holdDeadlineReached => decide
  | zeroingDeadlineReached n => simp only [timedRank]; omega
  | replenishDeadlineReached n => simp only [timedRank]; omega
  | beaconPhaseToggle b => simp only [timedRank]; omega
  | _ => cases h

/-- The option `o` is the choice among the timed commands ranked from `low` up to `high`: none where none of
them is due, and otherwise the one of the lowest rank. -/
structure Chooses (s : State) (low high : Nat) (o : Option Instr) : Prop where
  le : low ≤ high
  none_iff : o = none ↔ ∀ k c, low ≤ k → k < high → ¬ TimedDue s k c
  some_iff : ∀ c, o = some c ↔ ∃ k, low ≤ k ∧ k < high ∧ TimedDue s k c
    ∧ ∀ j d, low ≤ j → TimedDue s j d → k ≤ j

namespace Chooses

variable {s : State} {low mid high : Nat} {o p : Option Instr}

/-- One place of the order. -/
theorem single (c : Instr) (hc : timedRank c < 267) :
    Chooses s (timedRank c) (timedRank c + 1) (dueIf (s.measured c) c) where
  le := Nat.le_succ _
  none_iff := by
    rw [dueIf_eq_none, ← Bool.not_eq_true]
    refine ⟨fun hn k d h1 h2 ht => ?_, fun hn hd => ?_⟩
    · obtain ⟨hd, rfl⟩ := timedDue_iff.1 ht
      have same : timedRank d = timedRank c := by omega
      rw [← timedAt_timedRank (timedRank_lt hd), same, timedAt_timedRank hc] at hd
      exact hn hd
    · exact hn _ c (Nat.le_refl _) (Nat.lt_succ_self _) (timedDue_iff.2 ⟨hd, rfl⟩)
  some_iff d := by
    rw [dueIf_eq_some]
    constructor
    · rintro ⟨hd, rfl⟩
      exact ⟨_, Nat.le_refl _, Nat.lt_succ_self _, timedDue_iff.2 ⟨hd, rfl⟩, fun _ _ hj _ => hj⟩
    · rintro ⟨k, h1, h2, ht, -⟩
      obtain ⟨hd, rfl⟩ := timedDue_iff.1 ht
      have same : timedRank d = timedRank c := by omega
      have hcd : c = d := by
        rw [← timedAt_timedRank hc, ← same, timedAt_timedRank (timedRank_lt hd)]
      exact ⟨hcd ▸ hd, hcd⟩

/-- Lower ranks first, then the higher ones. -/
theorem or (ho : Chooses s low mid o) (hp : Chooses s mid high p) : Chooses s low high (o.or p) where
  le := ho.le.trans hp.le
  none_iff := by
    rw [Option.or_eq_none_iff, ho.none_iff, hp.none_iff]
    refine ⟨fun ⟨h1, h2⟩ k c hl hh => ?_, fun h => ⟨fun k c hl hm => h k c hl (hm.trans_le hp.le),
      fun k c hm hh => h k c (ho.le.trans hm) hh⟩⟩
    rcases Nat.lt_or_ge k mid with hk | hk
    · exact h1 k c hl hk
    · exact h2 k c hk hh
  some_iff c := by
    rw [Option.or_eq_some_iff, ho.some_iff, ho.none_iff, hp.some_iff]
    constructor
    · rintro (⟨k, hl, hm, ht, hmin⟩ | ⟨hnone, k, hm, hh, ht, hmin⟩)
      · exact ⟨k, hl, hm.trans_le hp.le, ht, hmin⟩
      · refine ⟨k, ho.le.trans hm, hh, ht, fun j d hl hj => ?_⟩
        rcases Nat.lt_or_ge j mid with hjm | hjm
        · exact absurd hj (hnone j d hl hjm)
        · exact hmin j d hjm hj
    · rintro ⟨k, hl, hh, ht, hmin⟩
      rcases Nat.lt_or_ge k mid with hk | hk
      · exact .inl ⟨k, hl, hk, ht, hmin⟩
      · refine .inr ⟨fun j d hj hjm hd => ?_, k, hk, hh, ht, fun j d hj => hmin j d (ho.le.trans hj)⟩
        exact absurd (hmin j d hj hd) (by omega)

/-- Ranks that follow the numbers of lanes or beacons. -/
theorem findSome {n : Nat} {f : Fin n → Option Instr}
    (h : ∀ i, Chooses s (low + i.val) (low + i.val + 1) (f i)) :
    Chooses s low (low + n) ((List.finRange n).findSome? f) := by
  induction n generalizing low with
  | zero =>
    exact ⟨Nat.le_refl _, by simp only [List.finRange_zero, List.findSome?_nil, true_iff]; omega,
      fun c => by simp only [List.finRange_zero, List.findSome?_nil, reduceCtorEq, false_iff]; omega⟩
  | succ n ih =>
    have head := h 0
    have tail := ih (low := low + 1) (f := f ∘ Fin.succ) fun i => by
      simpa [Nat.add_assoc, Nat.add_comm 1] using h i.succ
    have split : (List.finRange (n + 1)).findSome? f =
        (f 0).or ((List.finRange n).findSome? (f ∘ Fin.succ)) := by
      rw [List.finRange_succ, List.findSome?_cons, List.findSome?_map]
      cases f 0 <;> rfl
    rw [split, show low + (n + 1) = low + 1 + n by omega]
    exact head.or tail

end Chooses

/-- The due command is the choice among all timed commands. -/
theorem dueCommand_chooses (s : State) : Chooses s 0 267 s.dueCommand := by
  have zeroing : Chooses s 7 (7 + 128) ((List.finRange 128).findSome? (fun n =>
      dueIf (deadlineDue s.now (s.lanes.get n).zeroDeadline) (.zeroingDeadlineReached n))) :=
    .findSome fun n => .single (.zeroingDeadlineReached n) (by simp only [timedRank]; omega)
  have replenish : Chooses s 135 (135 + 128) ((List.finRange 128).findSome? (fun n =>
      dueIf (deadlineDue s.now (s.lanes.get n).replenishDeadline) (.replenishDeadlineReached n))) :=
    .findSome fun n => .single (.replenishDeadlineReached n) (by simp only [timedRank]; omega)
  have beacons : Chooses s 263 (263 + 4) ((List.finRange 4).findSome? (fun b =>
      dueIf (s.notice.beacons.get b).phaseDue (.beaconPhaseToggle b))) :=
    .findSome fun b => .single (.beaconPhaseToggle b) (by simp only [timedRank]; omega)
  have key : Chooses s 4 6 s.notice.keyDue :=
    .or (.single .debounceExpiry (by decide)) (.single .holdTimerExpiry (by decide))
  exact .or (.single (.replyWindowExpiry .a) (by decide)) <|
    .or (.single (.replyWindowExpiry .b) (by decide)) <|
    .or (.single (.sweepTimerExpiry .a) (by decide)) <|
    .or (.single (.sweepTimerExpiry .b) (by decide)) <|
    .or key <| .or (.single .holdDeadlineReached (by decide)) <|
    .or zeroing <| .or replenish beacons

/-- Every timed command is one of the 267. -/
theorem TimedDue.lt {s : State} {k : Nat} {c : Instr} (h : TimedDue s k c) : k < 267 := by
  obtain ⟨hc, rfl⟩ := timedDue_iff.1 h
  exact timedRank_lt hc

theorem dueCommand_eq_none {s : State} : s.dueCommand = none ↔ ∀ k c, ¬ TimedDue s k c :=
  (dueCommand_chooses s).none_iff.trans
    ⟨fun h k c ht => h k c (Nat.zero_le k) ht.lt ht, fun h k c _ _ => h k c⟩

theorem dueCommand_eq_some {s : State} {c : Instr} :
    s.dueCommand = some c ↔ ∃ k, TimedDue s k c ∧ ∀ j d, TimedDue s j d → k ≤ j :=
  ((dueCommand_chooses s).some_iff c).trans <| exists_congr fun k =>
    ⟨fun ⟨_, _, ht, hmin⟩ => ⟨ht, fun j d => hmin j d (Nat.zero_le j)⟩,
      fun ⟨ht, hmin⟩ => ⟨Nat.zero_le k, ht.lt, ht, fun j d _ => hmin j d⟩⟩

/-- Settles O2: an idle step goes by the due command, the choice by rank among the timed commands. -/
theorem emptyQueueLetsTimePass : Obligations.EmptyQueueLetsTimePass := by
  intro s w
  have idles : step w = idle w := rfl
  refine ⟨fun hnone => ?_, fun k c ht hmin => ?_, dueCommand_eq_none, fun c => dueCommand_eq_some⟩
  · rw [idles, idle, dueCommand_eq_none.2 hnone]
  · rw [idles, idle, dueCommand_eq_some.2 ⟨k, ht, hmin⟩]

end Sys2Proof.Machine
end

section
/-! The local sources of the upstream arbiter (R143). A REPLY taken lets the engine take what waits, so it is shown
first that a request does the same whatever waits behind it: only the reply of READ STATUS counts the intake FIFO
(Table 9-4). -/

namespace Sys2Proof.Machine

namespace State

/-- The state with other requests in the intake FIFO. -/
def waiting (s : State) (queue : List Request) : State := { s with mgmt := { s.mgmt with intake := queue } }

variable (s : State) (queue : List Request)

@[simp] theorem waiting_lanes : (s.waiting queue).lanes = s.lanes := rfl
@[simp] theorem waiting_sweep : (s.waiting queue).sweep = s.sweep := by
  funext g; cases g <;> rfl
@[simp] theorem waiting_waiting (rest : List Request) : (s.waiting queue).waiting rest = s.waiting rest := rfl
@[simp] theorem waiting_self : s.waiting s.mgmt.intake = s := rfl

theorem ite_waiting {c : Prop} [Decidable c] {s t u v : State} (hs : u = s.waiting queue) (ht : v = t.waiting queue) :
    (if c then u else v) = (if c then s else t).waiting queue := by
  split_ifs <;> assumption

/-! ### The closing of an event -/

theorem setSweep_waiting (g : Segment) (e : SweepEngine) :
    (s.waiting queue).setSweep g e = (s.setSweep g e).waiting queue := by
  cases g <;> rfl

theorem admitUpTo_waiting (fuel : Nat) :
    (s.waiting queue).admitUpTo fuel = (s.admitUpTo fuel).waiting queue := by
  induction fuel generalizing s with
  | zero => rfl
  | succ fuel ih =>
    have next : (s.waiting queue).nextDeferred = s.nextDeferred := rfl
    simp only [admitUpTo, next]
    refine ite_waiting queue ?_ rfl
    cases s.nextDeferred with
    | none => rfl
    | some x => exact ih (s.enqueue x)

theorem leaveQueue_waiting (xs : List Subject) :
    (s.waiting queue).leaveQueue xs = (s.leaveQueue xs).waiting queue := by
  refine ite_waiting queue ?_ rfl
  exact admitUpTo_waiting { s with notice := { s.notice with
    queue := s.notice.queue.filter (fun e => !xs.contains e.subject)
    deferred := s.notice.deferred.filter (fun x => !xs.contains x) } } queue _

theorem joinQueue_waiting (x : Subject) : (s.waiting queue).joinQueue x = (s.joinQueue x).waiting queue :=
  ite_waiting queue rfl rfl

theorem joinAll_waiting (xs : List Subject) :
    xs.foldl joinQueue (s.waiting queue) = (xs.foldl joinQueue s).waiting queue := by
  induction xs generalizing s with
  | nil => rfl
  | cons x xs ih => rw [List.foldl_cons, List.foldl_cons, joinQueue_waiting, ih]

/-- The closing of an event reads nothing of the intake FIFO. -/
theorem close_waiting (before after : State) :
    close (before.waiting queue) (after.waiting queue) = (close before after).waiting queue := by
  have settled : settleNotices (before.waiting queue) (after.waiting queue) =
      (settleNotices before after).waiting queue := by
    refine Eq.trans ?_ (joinAll_waiting _ queue _)
    refine congrArg (List.foldl joinQueue · _) ?_
    exact leaveQueue_waiting { after with
      lanes := Table.zipWith (Lane.settleDue after.now) before.lanes after.lanes
      nodes := Table.zipWith (Node.settleDue after.now) before.nodes after.nodes } queue _
  rw [close, settled]
  rfl

/-! ### The operations of the requests -/

theorem endHold_waiting : (s.waiting queue).endHold = s.endHold.waiting queue := by
  refine ite_waiting queue ?_ rfl
  exact close_waiting queue s { s with
    notice := { s.notice with holdDeadline := none }
    lanes := s.lanes.map (fun l => Lane.judge s.notice.groups s.now true false l l) }

theorem reportNode_waiting (slot : Fin 64) (k : Node) :
    (s.waiting queue).reportNode slot k = (s.reportNode slot k).waiting queue := by
  rw [reportNode_eq, reportNode_eq, setRelays, setRelays, ← setSweep_waiting]
  cases segmentOf slot <;> rfl

theorem releaseNode_waiting (slot : Fin 64) :
    (s.waiting queue).releaseNode slot = (s.releaseNode slot).waiting queue :=
  ite_waiting queue (ite_waiting queue (reportNode_waiting s queue slot _) rfl) rfl

theorem acknowledgeAll_waiting (pairs : List (Fin 128 × Band)) :
    (s.waiting queue).acknowledgeAll pairs = (s.acknowledgeAll pairs).waiting queue := by
  induction pairs generalizing s with
  | nil => rfl
  | cons p rest ih => exact ih (s.modifyLane p.1 (Lane.acknowledge s.holding p.2))

theorem storeGroup_waiting (n : Fin 16) (g : Group) :
    (s.waiting queue).storeGroup n g = (s.storeGroup n g).waiting queue :=
  ite_waiting queue rfl rfl

/-! ### The requests -/

/-- The same answer over a state with other requests in the intake FIFO. -/
def answerWaiting (queue : List Request) (a : Answer) : Answer := { a with state := a.state.waiting queue }

theorem ite_answerWaiting {c : Prop} [Decidable c] {a b u v : Answer} (ha : u = answerWaiting queue a)
    (hb : v = answerWaiting queue b) : (if c then u else v) = answerWaiting queue (if c then a else b) := by
  split_ifs <;> assumption

theorem done_waiting {t u : State} (h : u = t.waiting queue) : u.done = answerWaiting queue t.done :=
  congrArg done h

theorem requestWriteStation_waiting (p : List Byte) :
    (s.waiting queue).requestWriteStation p = answerWaiting queue (s.requestWriteStation p) := by
  unfold requestWriteStation
  cases QueueOrder.ofCode (byteAt p 1) <;> rfl

theorem requestNoticeOutput_waiting (p : List Byte) :
    (s.waiting queue).requestNoticeOutput p = answerWaiting queue (s.requestNoticeOutput p) := by
  unfold requestNoticeOutput
  cases NoticeOutput.ofCode (byteAt p 1) <;> rfl

theorem requestWriteCapture_waiting (p : List Byte) :
    (s.waiting queue).requestWriteCapture p = answerWaiting queue (s.requestWriteCapture p) := by
  unfold requestWriteCapture
  split
  · split <;> rfl
  · rfl

theorem requestWriteMask_waiting (p : List Byte) :
    (s.waiting queue).requestWriteMask p = answerWaiting queue (s.requestWriteMask p) := by
  unfold requestWriteMask
  split <;> rfl

theorem requestWriteCalibration_waiting (p : List Byte) :
    (s.waiting queue).requestWriteCalibration p = answerWaiting queue (s.requestWriteCalibration p) := by
  unfold requestWriteCalibration
  cases index 256 (fieldAt p 1 2) with
  | none => rfl
  | some cell => exact ite_answerWaiting queue rfl rfl

theorem requestLoadSweepList_waiting (p : List Byte) :
    (s.waiting queue).requestLoadSweepList p = answerWaiting queue (s.requestLoadSweepList p) := by
  unfold requestLoadSweepList
  cases Segment.ofCode (byteAt p 1) with
  | none => rfl
  | some g =>
    exact ite_answerWaiting queue rfl (ite_answerWaiting queue rfl (ite_answerWaiting queue rfl rfl))

theorem requestWriteLane_waiting (p : List Byte) :
    (s.waiting queue).requestWriteLane p = answerWaiting queue (s.requestWriteLane p) := by
  unfold requestWriteLane
  cases index 128 (byteAt p 1) with
  | none => rfl
  | some n =>
    refine ite_answerWaiting queue rfl ?_
    cases index 16 (laneWrite p).group with
    | none => rfl
    | some g =>
      exact congrArg (Answer.mk _ []) (close_waiting queue s (s.modifyLane n (fun l =>
        s.judge l (l.rewrite s.nodes ((laneWrite p).stored g)))))

theorem requestReadLane_waiting (p : List Byte) :
    (s.waiting queue).requestReadLane p = answerWaiting queue (s.requestReadLane p) := by
  simp only [requestReadLane, waiting_lanes]
  cases index 128 (byteAt p 1) with
  | none => rfl
  | some n =>
    dsimp only
    cases (s.lanes.get n).part (byteAt p 2) <;> rfl

theorem requestZeroLane_waiting (p : List Byte) :
    (s.waiting queue).requestZeroLane p = answerWaiting queue (s.requestZeroLane p) := by
  simp only [requestZeroLane, waiting_lanes]
  cases index 128 (byteAt p 1) with
  | none => rfl
  | some n =>
    dsimp only
    cases (s.lanes.get n).state <;> rfl

theorem requestAcknowledge_waiting (p : List Byte) :
    (s.waiting queue).requestAcknowledge p = answerWaiting queue (s.requestAcknowledge p) := by
  unfold requestAcknowledge
  cases ackCheck (ackPairs (p.drop 1)) with
  | error r => rfl
  | ok pairs =>
    refine done_waiting queue ?_
    rw [acknowledgeAll_waiting, close_waiting]

theorem requestWriteGroup_waiting (p : List Byte) :
    (s.waiting queue).requestWriteGroup p = answerWaiting queue (s.requestWriteGroup p) := by
  unfold requestWriteGroup
  cases index 16 (byteAt p 1) with
  | none => rfl
  | some n =>
    simp only [storeGroup_waiting, close_waiting]
    split <;> rfl

theorem requestReadNode_waiting (p : List Byte) :
    (s.waiting queue).requestReadNode p = answerWaiting queue (s.requestReadNode p) := by
  unfold requestReadNode
  cases index 64 (byteAt p 1) <;> rfl

theorem requestReleaseNode_waiting (p : List Byte) :
    (s.waiting queue).requestReleaseNode p = answerWaiting queue (s.requestReleaseNode p) := by
  unfold requestReleaseNode
  cases index 64 (byteAt p 1) with
  | none => rfl
  | some slot =>
    refine done_waiting queue ?_
    rw [releaseNode_waiting, close_waiting]

theorem requestRelay_waiting (tag : Byte) (p : List Byte) :
    (s.waiting queue).requestRelay tag p = answerWaiting queue (s.requestRelay tag p) := by
  unfold requestRelay
  rw [waiting_sweep]
  refine ite_answerWaiting queue rfl ?_
  cases Segment.ofCode (byteAt p 1) with
  | none => rfl
  | some g =>
    refine ite_answerWaiting queue rfl (ite_answerWaiting queue rfl ?_)
    cases g <;> rfl

/-- Of the requests only READ STATUS reads the intake FIFO. -/
theorem perform_waiting {code : RequestCode} (h : code ≠ .readStatus) (tag : Byte) (p : List Byte) :
    (s.waiting queue).perform code tag p = answerWaiting queue (s.perform code tag p) := by
  cases code with
  | readStatus => exact absurd rfl h
  | writeStation => exact requestWriteStation_waiting s queue p
  | noticeOutput => exact requestNoticeOutput_waiting s queue p
  | writeCapture => exact requestWriteCapture_waiting s queue p
  | writeMask => exact requestWriteMask_waiting s queue p
  | writeCalibration => exact requestWriteCalibration_waiting s queue p
  | loadSweepList => exact requestLoadSweepList_waiting s queue p
  | writeLane => exact requestWriteLane_waiting s queue p
  | readLane => exact requestReadLane_waiting s queue p
  | zeroLane => exact requestZeroLane_waiting s queue p
  | acknowledge => exact requestAcknowledge_waiting s queue p
  | writeGroup => exact requestWriteGroup_waiting s queue p
  | readNode => exact requestReadNode_waiting s queue p
  | releaseNode => exact requestReleaseNode_waiting s queue p
  | relay => exact requestRelay_waiting s queue tag p
  | aisleRelease => exact done_waiting queue (endHold_waiting s queue)
  | identify | commit | discard | aisleHold | restart => rfl

/-- READ STATUS counts the waiting requests in the last byte of its fields (Table 9-4). -/
theorem statusFields_waiting :
    (s.waiting queue).statusFields = s.statusFields.dropLast ++ [byteOf queue.length] := by
  unfold statusFields
  rw [List.dropLast_append_of_ne_nil (by simp)]
  rfl

theorem answer_waiting {code : RequestCode} {p : List Byte}
    (h : code ≠ .readStatus ∨ code.fits p.length = false) (tag : Byte) :
    (s.waiting queue).answer code tag p = answerWaiting queue (s.answer code tag p) := by
  cases hfits : code.fits p.length with
  | false =>
    rw [answer_of_not_fits code p hfits, answer_of_not_fits code p hfits]
    rfl
  | true =>
    rw [answer_of_fits code p hfits, answer_of_fits code p hfits]
    exact perform_waiting s queue (h.resolve_right (by simp [hfits])) tag p

/-- An accepted broadcast is never READ STATUS (R157). -/
theorem executeBroadcast_waiting (tag : Byte) (p : List Byte) :
    (s.waiting queue).executeBroadcast tag p = (s.executeBroadcast tag p).waiting queue := by
  cases p with
  | nil => rfl
  | cons c fields =>
    dsimp only [executeBroadcast]
    cases RequestCode.ofByte c with
    | none => rfl
    | some code =>
      dsimp only
      split_ifs with hb
      · have hcode : code ≠ .readStatus := by
          rintro rfl
          cases hb
        rw [answer_waiting s queue (.inl hcode)]
        rfl
      · rfl

/-- The payload 02h is the one that READ STATUS accepts (Table 9-1). -/
theorem payload_of_readStatus {c : Byte} {fields : List Byte} (hc : RequestCode.ofByte c = some .readStatus)
    (hfits : RequestCode.fits .readStatus (c :: fields).length = true) : c :: fields = [0x02] := by
  have hbyte : c = 0x02 :=
    (beq_iff_eq.1 (List.find?_some (p := fun code : RequestCode => code.code == c) hc)).symm
  have hlength : fields = [] := by simpa [RequestCode.fits] using hfits
  rw [hbyte, hlength]

theorem executeUnicast_waiting {p : List Byte} (h : p ≠ [0x02]) (tag : Byte) :
    (s.waiting queue).executeUnicast tag p = (s.executeUnicast tag p).waiting queue := by
  cases p with
  | nil => rfl
  | cons c fields =>
    dsimp only [executeUnicast]
    cases hc : RequestCode.ofByte c with
    | none => rfl
    | some code =>
      refine ite_waiting queue rfl ?_
      have hcode : code ≠ .readStatus ∨ code.fits (c :: fields).length = false := by
        by_contra! hn
        obtain ⟨rfl, hfits⟩ := hn
        exact h (payload_of_readStatus hc (Bool.not_eq_false _ ▸ hfits))
      rw [answer_waiting s queue hcode]
      rfl

theorem executeUnicast_readStatus (tag : Byte) : s.executeUnicast tag [0x02] =
    s.clearStatus.putReply tag 0x02 .done s.statusFields := rfl

/-- What a unicast request leaves, whatever waits behind it: the count of READ STATUS is the only difference. -/
theorem executeUnicast_counts (tag : Byte) (p : List Byte) : (s.waiting queue).executeUnicast tag p =
    { s.executeUnicast tag p with mgmt := { (s.executeUnicast tag p).mgmt with
      intake := queue
      reply :=
        if p = [0x02] then
          (s.executeUnicast tag p).mgmt.reply.map (fun r =>
            { r with payload := r.payload.dropLast ++ [byteOf queue.length] })
        else (s.executeUnicast tag p).mgmt.reply } } := by
  by_cases h : p = [0x02]
  · subst h
    rw [executeUnicast_readStatus, executeUnicast_readStatus, statusFields_waiting, if_pos rfl]
    rfl
  · rw [executeUnicast_waiting s queue h, if_neg h]
    rfl

/-- A unicast request is answered, or its COMMIT holds the engine (R156). -/
theorem executeUnicast_not_ready (tag : Byte) (p : List Byte) : (s.executeUnicast tag p).ready = false := by
  rw [ready_eq_false]
  cases p with
  | nil => exact .inr (Option.some_ne_none _)
  | cons c fields =>
    dsimp only [executeUnicast]
    cases RequestCode.ofByte c with
    | none => exact .inr (Option.some_ne_none _)
    | some code =>
      dsimp only
      split_ifs
      · exact .inl (fun h => nomatch h)
      · exact .inr (Option.some_ne_none _)

/-! ### The requests that wait are taken -/

theorem takesAtOnce_waiting (ha : s.backbone.address.isSome = true) (hready : s.ready = true) :
    (s.waiting []).TakesAtOnce :=
  have ⟨he, hr⟩ := ready_iff.1 hready
  ⟨ha, he, hr, rfl⟩

theorem exec_delivery_taken {q : Request} (h : s.TakesAtOnce) : exec q.delivery s = .next (s.execute q) := by
  rw [exec_delivery, submit_taken h]

theorem takeUpTo_succ {q : Request} {rest : List Request} (hready : s.ready = true) (hi : s.mgmt.intake = q :: rest)
    (fuel : Nat) : s.takeUpTo (fuel + 1) = ((s.waiting rest).execute q).takeUpTo fuel := by
  rw [takeUpTo, if_pos hready, hi]
  rfl

/-- An engine that may take takes what waits: broadcasts one after the other, and up to the first unicast
request (R156, R157). -/
theorem takesWaiting_takeUpTo (queue : List Request) (fuel : Nat) (hfuel : queue.length ≤ fuel)
    (ha : s.backbone.address.isSome = true) (hready : s.ready = true) (hi : s.mgmt.intake = queue) :
    (s.waiting []).TakesWaiting queue (s.takeUpTo fuel) := by
  induction queue generalizing s fuel with
  | nil =>
    have hempty : s.waiting [] = s := by rw [← hi, waiting_self]
    cases fuel with
    | zero => exact hempty.symm
    | succ fuel =>
      rw [hempty, TakesWaiting, takeUpTo, if_pos hready, hi]
  | cons q rest ih =>
    cases fuel with
    | zero => cases hfuel
    | succ fuel =>
      rw [takeUpTo_succ s hready hi]
      refine ⟨_, exec_delivery_taken _ (takesAtOnce_waiting s ha hready), ?_⟩
      by_cases hb : q.broadcast = true
      · have performs := performs_executeBroadcast (s.waiting rest) q.tag q.payload
        have ⟨he, hr⟩ := ready_iff.1 hready
        have taken := ih ((s.waiting rest).executeBroadcast q.tag q.payload) fuel
          (Nat.le_of_succ_le_succ hfuel) (by rwa [performs.address])
          (ready_iff.2 ⟨performs.engine.trans he, performs.reply.trans hr⟩) performs.intake
        rw [← executeBroadcast_waiting (s.waiting rest) [], waiting_waiting] at taken
        simpa only [execute, if_pos hb] using taken
      · simp only [execute, if_neg hb]
        rw [takeUpTo_of_not_ready (executeUnicast_not_ready _ _ _)]
        exact executeUnicast_counts (s.waiting []) rest q.tag q.payload

/-! ### The local sources -/

variable {s} {a : BitVec 16}

theorem exec_upstreamChoice_local {t : State} (h : s.LocalTurn) (ht : s.takeLocal = some t) :
    exec .upstreamChoice s = .next t :=
  congrArg Host.Outcome.next (chooseUpstream_of_localTurn h ht)

theorem ownFrame_assigned (ha : s.backbone.address = some a) (kind tag : Byte) (payload : List Byte) :
    s.ownFrame kind tag payload = ⟨kind, 0, a, tag, payload⟩ := by
  rw [ownFrame, ha]
  rfl

/-- The station with its REPLY sent and the reply slot empty, before it takes what waits (R143, R159). -/
def replySent (s : State) (a : BitVec 16) (r : Reply) : State :=
  { s with
    backbone := { s.backbone with streak := 0, buTx := some ⟨0x52, 0, a, r.tag, r.payload⟩ }
    mgmt := { s.mgmt with reply := none } }

theorem takeReply_eq (ha : s.backbone.address = some a) (r : Reply) (he : s.mgmt.engine ≠ .restarting) :
    s.takeReply r = (s.replySent a r).takeRequests := by
  rw [takeReply, ownFrame_assigned ha]
  dsimp only
  split
  · exact absurd ‹_› he
  · rfl
  · rfl

theorem takeRequests_of_waits (h : s.mgmt.intake = [] ∨ s.mgmt.engine ≠ .idle) : s.takeRequests = s := by
  rcases h with hi | he
  · exact takeRequests_of_empty hi
  · exact takeUpTo_of_not_ready (ready_eq_false.2 (.inl he)) _

theorem mem_endedRelays {g : Segment} {r : Relay} :
    (g, r) ∈ (s.sweepA.relays.filter (fun r => !r.isOpen)).map (Prod.mk Segment.a)
      ++ (s.sweepB.relays.filter (fun r => !r.isOpen)).map (Prod.mk Segment.b)
    ↔ r ∈ (s.sweep g).relays ∧ r.outcome ≠ none := by
  cases g <;> simp [sweep, Relay.isOpen, Option.isSome_iff_ne_none]

/-- The ended relay whose acceptance number is the lowest of both queues is the relay source's offer
(R119). -/
theorem endedRelay_of_lowest {g : Segment} {r : Relay} (hr : r ∈ (s.sweep g).relays) (ho : r.outcome ≠ none)
    (hlow : ∀ (h : Segment) (q : Relay), q ∈ (s.sweep h).relays → q.outcome ≠ none →
      (h, q) ≠ (g, r) → r.acceptance < q.acceptance) : s.endedRelay = some (g, r) := by
  have hmem := mem_endedRelays.2 ⟨hr, ho⟩
  obtain ⟨⟨h, q⟩, hbest⟩ := best_isSome (ahead := fun a b : Segment × Relay =>
    a.2.acceptance < b.2.acceptance) (List.ne_nil_of_mem hmem)
  obtain ⟨hq, hqo⟩ := mem_endedRelays.1 (best_mem hbest)
  have hle : q.acceptance ≤ r.acceptance :=
    best_first (R := fun a b : Segment × Relay => a.2.acceptance ≤ b.2.acceptance)
      { refl := fun _ _ => Nat.le_refl _
        trans := fun _ _ _ _ _ _ => Nat.le_trans
        yes := fun _ _ _ _ hab => Nat.le_of_lt (of_decide_eq_true hab)
        no := fun _ _ _ _ hab => Nat.le_of_not_lt (of_decide_eq_false hab) } hbest _ hmem
  have heq : (h, q) = (g, r) := by
    by_contra hne
    exact Nat.not_lt.2 hle (hlow h q hq hqo hne)
  rw [endedRelay, hbest, heq]

theorem takeRelay_eq (ha : s.backbone.address = some a) (g : Segment) (r : Relay) : s.takeRelay g r =
    { s.setSweep g { s.sweep g with
        relays := (s.sweep g).relays.filter (fun q => q.acceptance != r.acceptance) } with
      backbone := { s.backbone with
        streak := 0
        buTx := some ⟨0x57, 0, a, r.tag, [byteOf g.code, r.address.setWidth 8,
          byteOf (relayOutcomeCode r.outcome), byteOf r.failed]⟩ } } := by
  rw [takeRelay, ownFrame_assigned ha]
  cases g <;> rfl

theorem takeMirror_eq (ha : s.backbone.address = some a) (p : List Byte) : s.takeMirror p =
    { s with backbone := { s.backbone with
      streak := 0, mirror := none, buTx := some ⟨0x54, 0, a, 0, p⟩ } } := by
  rw [takeMirror, ownFrame_assigned ha]
  rfl

end State

open State

/-- Settles O37. A REPLY leaves a `replySent` station, and what its engine takes then is
`takesWaiting_takeUpTo`; the relay source's offer is `endedRelay_of_lowest`. -/
theorem arbiterTakesLocalFrame : Obligations.ArbiterTakesLocalFrame := by
  intro s a hturn ha
  refine ⟨fun r hr he => ?_, fun hr g r hmem ho hlow => ?_, fun hr hrelay hnotice p hp => ?_⟩
  · have taken : exec .upstreamChoice s = .next (s.replySent a r).takeRequests := by
      rw [exec_upstreamChoice_local hturn (takeLocal_reply ha hr), takeReply_eq ha r he]
    refine ⟨fun hwaits => ?_, fun hidle => ⟨_, taken, ?_⟩⟩
    · exact taken.trans (congrArg Host.Outcome.next (takeRequests_of_waits (s := s.replySent a r) hwaits))
    · exact takesWaiting_takeUpTo (s.replySent a r) s.mgmt.intake _ (Nat.le_refl _) hturn.1
        (ready_iff.2 ⟨hidle, rfl⟩) rfl
  · rw [exec_upstreamChoice_local hturn (takeLocal_relay ha hr (endedRelay_of_lowest hmem ho hlow)),
      takeRelay_eq ha]
  · have mirrored : s.takeLocal = some (s.takeMirror p) := by
      rw [takeLocal_mirror ha hr hrelay hnotice, hp, Option.map_some]
    rw [exec_upstreamChoice_local hturn mirrored, takeMirror_eq ha]

end Sys2Proof.Machine
end

section
/-! The take of the RESTART reply, the warm start (O5): the lane records (R18), the queue rebuilt from the due
lanes (R104), and what the blocks keep and clear (R36, R103, R121, R135, R153, R167). -/

namespace Sys2Proof.Machine

/-! ### The lane records (R18) -/

/-- A lane at warm start as one update of its record. -/
theorem Lane.warm_record (l : Lane) : l.warm = { l with
    cells := l.cells.map (fun c => { c with fresh := false })
    window := []
    replenishDeadline := none
    feedDoubtful := false
    zeroDeadline := none
    zeroResult := if l.zeroing then some .cancelled else l.zeroResult
    kinds := { l.kinds with zero := l.kinds.zero || l.zeroing }
    state := if l.bound then .acquiring else l.state
    band := if l.bound then .unknown else l.band
    unfitRun := if l.bound then 0 else l.unfitRun } := by
  rw [Lane.warm_eq, Lane.warmed_bound, Lane.warmed, Lane.cancelZeroing_record]
  cases l.bound with
  | false => rfl
  | true =>
    simp only [Lane.enterAcquiring, Lane.clearWindow, List.map_map]
    rfl

namespace State

variable {s t : State} {xs ys : List Subject}

/-! ### The queue rebuilt (R104) -/

/-- The due lanes in lane order: those that the rebuilding admits or defers. -/
def dueLanes (s : State) : List Subject :=
  ((List.finRange 128).filter (fun n => (s.lanes.get n).due)).map Subject.lane

/-- The station with its due lanes deferred. -/
def dueDeferred (s : State) : State := { s with notice := { s.notice with deferred := s.dueLanes } }

theorem rebuildQueue_eq (s : State) : s.rebuildQueue = s.dueDeferred.admitDeferred := rfl

theorem lane_mem_dueLanes (n : Fin 128) : Subject.lane n ∈ s.dueLanes ↔ (s.lanes.get n).due = true := by
  simp [dueLanes]

theorem node_not_mem_dueLanes (i : Fin 64) : Subject.node i ∉ s.dueLanes := by
  simp [dueLanes]

theorem dueLanes_rising (s : State) : Rising s.dueLanes :=
  List.pairwise_map.2 ((List.pairwise_lt_finRange 128).filter _)

/-- Of the due lanes of `s`, `xs` stand in the queue of `t`, numbered from 0, and `ys` are deferred behind a
full queue; where due times are comparable, `xs` is in the queue order and stands before `ys`. -/
structure Rebuilt (s t : State) (xs ys : List Subject) : Prop where
  queue : t.notice.queue = numbered 0 xs
  deferred : t.notice.deferred = ys
  next : t.notice.nextAdmission = xs.length
  waiting : ∀ x, x ∈ xs ++ ys ↔ x ∈ s.dueLanes
  nodup : (xs ++ ys).Nodup
  room : xs.length ≤ 32
  full : ys ≠ [] → xs.length = 32
  ordered : t.DueComparable (xs ++ ys) →
    xs.Pairwise t.AdmittedBefore ∧ ∀ x ∈ xs, ∀ y ∈ ys, t.AdmittedBefore x y

/-- Subjects that stand foremost, each once, stand in the queue order. -/
theorem admittedBefore_of_foremost (hn : (xs ++ ys).Nodup)
    (h : xs.Pairwise t.Foremost ∧ ∀ x ∈ xs, ∀ y ∈ ys, t.Foremost x y) :
    xs.Pairwise t.AdmittedBefore ∧ ∀ x ∈ xs, ∀ y ∈ ys, t.AdmittedBefore x y := by
  obtain ⟨pairs, others⟩ := h
  obtain ⟨hxs, -, apart⟩ := List.nodup_append.1 hn
  exact ⟨pairs.imp₂ (fun _ _ hf hne => hf.resolve_left hne) hxs,
    fun x hx y hy => (others x hx y hy).resolve_left (apart x hx y hy)⟩

theorem rebuildQueue_rebuilt (hq : s.notice.queue = []) (hn : s.notice.nextAdmission = 0) :
    ∃ xs ys, s.Rebuilt s.rebuildQueue xs ys := by
  obtain ⟨xs, h, hfull⟩ := s.dueDeferred.admitDeferred_admitted
  have queue : s.rebuildQueue.notice.queue = numbered 0 xs := by
    rw [← hn, ← List.nil_append (numbered _ xs), ← hq]
    exact h.queue
  have length : s.rebuildQueue.notice.queue.length = xs.length := by rw [queue, numbered_length]
  have deferred (x : Subject) :
      x ∈ s.rebuildQueue.notice.deferred ↔ x ∈ s.dueLanes ∧ x ∉ xs := by
    rw [rebuildQueue_eq, h.deferred]
    simp [dueDeferred]
  have waiting (x : Subject) : x ∈ xs ++ s.rebuildQueue.notice.deferred ↔ x ∈ s.dueLanes := by
    have hx : x ∈ xs → x ∈ s.dueLanes := h.mem x
    rw [List.mem_append, deferred]
    tauto
  have nodup : (xs ++ s.rebuildQueue.notice.deferred).Nodup := by
    refine List.nodup_append.2 ⟨h.nodup, ?_, fun x hx y hy hxy => ((deferred y).1 hy).2 (hxy ▸ hx)⟩
    rw [rebuildQueue_eq, h.deferred]
    exact s.dueLanes_rising.nodup.filter _
  have room : xs.length ≤ 32 := by
    rcases h.room with rfl | hroom
    · exact Nat.zero_le _
    · exact length ▸ hroom
  refine ⟨xs, _, queue, rfl, ?_, waiting, nodup, room, fun hne => ?_, fun hd => ?_⟩
  · exact h.next.trans (by simp [dueDeferred, hn])
  · exact room.antisymm (length ▸ hfull.resolve_left hne)
  · have decides : Decides s.dueDeferred.admits s.rebuildQueue.Foremost s.dueLanes :=
      h.frame.admits ▸ hd.decides.mono fun x hx => (waiting x).2 hx
    exact admittedBefore_of_foremost nodup (h.ordered _ decides)

/-- The beacons, decided last, leave the queue as it was rebuilt. -/
theorem warmStart_rebuilt (s : State) : ∃ xs ys, s.warmed.Rebuilt s.warmStart xs ys := by
  obtain ⟨xs, ys, h⟩ := rebuildQueue_rebuilt (s := s.warmed) rfl rfl
  exact ⟨xs, ys, h.queue, h.deferred, h.next, h.waiting, h.nodup, h.room, h.full, h.ordered⟩

namespace Rebuilt

variable (h : s.Rebuilt t xs ys)
include h

theorem subjects : t.notice.queue.map QueueEntry.subject ++ t.notice.deferred = xs ++ ys := by
  rw [h.queue, numbered_subjects, h.deferred]

theorem queue_length : t.notice.queue.length = xs.length := by rw [h.queue, numbered_length]

theorem mem_dueLanes (x : Subject) : x ∈ s.dueLanes ↔ t.queued x ∨ x ∈ t.notice.deferred := by
  rw [← h.waiting, List.mem_append, State.queued, h.queue, exists_mem_numbered, h.deferred]

theorem numbers : t.notice.queue.map QueueEntry.number = List.range t.notice.queue.length := by
  rw [h.queue_length, h.queue, numbered_numbers, List.range_eq_range']

theorem in_order (hd : t.DueComparable (t.notice.queue.map QueueEntry.subject ++ t.notice.deferred)) :
    t.notice.queue.Pairwise (fun e f => t.AdmittedBefore e.subject f.subject)
      ∧ ∀ e ∈ t.notice.queue, ∀ x ∈ t.notice.deferred, t.AdmittedBefore e.subject x := by
  obtain ⟨pairs, others⟩ := h.ordered (h.subjects ▸ hd)
  rw [h.queue, h.deferred]
  exact ⟨pairwise_numbered.2 pairs, fun e he => others _ (mem_numbered_subject he)⟩

end Rebuilt

/-! ### What a warm start keeps and clears -/

/-- The rebuilding and the beacons write only in the Notice Unit. -/
theorem warmStart_frame (s : State) : s.warmStart = { s.warmed with notice := { s.warmed.notice with
    queue := s.warmStart.notice.queue
    deferred := s.warmStart.notice.deferred
    nextAdmission := s.warmStart.notice.nextAdmission
    beacons := s.warmStart.notice.beacons } } := by
  have frame : s.warmed.SameButQueue s.warmed.rebuildQueue := admitDeferred_frame s.warmed.dueDeferred
  unfold SameButQueue at frame
  rw [warmStart_eq]
  generalize s.warmed.rebuildQueue = t at frame
  rw [frame]
  rfl

/-- No output was driven when the beacons are decided, so one that flashes begins its high phase (R96). -/
theorem warmStart_flashing (s : State) (b : Fin 4)
    (h : (s.warmStart.notice.beacons.get b).isFlashing = true) :
    s.warmStart.notice.beacons.get b = .flashing true 0 := by
  have dark : s.warmed.rebuildQueue.notice.beacons.get b = .off := by
    have off : s.warmed.rebuildQueue.notice.beacons = .const 4 .off :=
      congrArg (·.notice.beacons) (admitDeferred_frame s.warmed.dueDeferred)
    rw [off, Table.get_const]
  have rhythm := refreshBeacons_rhythm s.warmed.rebuildQueue b h
  rw [dark] at rhythm
  exact rhythm

theorem takeReply_restarting {a : BitVec 16} (ha : s.backbone.address = some a) (r : Reply)
    (he : s.mgmt.engine = .restarting) : s.takeReply r = (s.replySent a r).warmStart := by
  rw [takeReply, ownFrame_assigned ha]
  dsimp only [sendLocal]
  rw [he]
  rfl

end State

open State

/-- Settles O5: the take is a warm start of the station with the REPLY sent; the queue is `Rebuilt`, and the
rest is read off the frame of the warm start. -/
theorem restartReplyTakenIsWarmStart : Obligations.RestartReplyTakenIsWarmStart := by
  intro s a r hturn ha hr he
  have taken : exec .upstreamChoice s = .next (s.replySent a r).warmStart := by
    rw [exec_upstreamChoice_local hturn (takeLocal_reply ha hr), takeReply_restarting ha r he]
  obtain ⟨xs, ys, rebuilt⟩ := (s.replySent a r).warmStart_rebuilt
  have frame := (s.replySent a r).warmStart_frame
  have follow : (s.replySent a r).warmStart.BeaconsFollow := refreshBeacons_follow _
  have flashing := (s.replySent a r).warmStart_flashing
  generalize (s.replySent a r).warmStart = t at *
  have lanes : t.lanes = s.lanes.map s.warmLane := by rw [frame]; rfl
  have nodes : t.nodes = s.nodes.map (fun n => { n.reset with due := false }) := by rw [frame]; rfl
  have due (n : Fin 128) : (t.lanes.get n).due = true ↔
      Subject.lane n ∈ (s.replySent a r).warmed.dueLanes := by
    rw [lane_mem_dueLanes, lanes]
    rfl
  refine ⟨t, taken, by rw [frame]; rfl, by rw [frame]; rfl, by rw [frame]; rfl, ?_,
    fun n => (due n).trans (rebuilt.mem_dueLanes _),
    fun i => not_or.1 fun hi => node_not_mem_dueLanes i ((rebuilt.mem_dueLanes _).2 hi),
    rebuilt.subjects ▸ rebuilt.nodup, rebuilt.queue_length ▸ rebuilt.room,
    fun hne => rebuilt.queue_length.trans (rebuilt.full (rebuilt.deferred ▸ hne)), rebuilt.numbers,
    rebuilt.in_order, follow, flashing, by rw [frame]; rfl, by rw [frame]; rfl, fun n => ?_, fun i => ?_,
    by rw [frame]; rfl, by rw [frame]; rfl, by rw [frame]; rfl, by rw [frame]; rfl⟩
  · rw [rebuilt.queue_length, ← rebuilt.next]
    conv_lhs => rw [frame]
    rfl
  · rw [lanes, Table.get_map, warmLane, Lane.warm_record]
  · rw [nodes, Table.get_map]
    rfl

end Sys2Proof.Machine
end

section
/-! The checks before a request's own rule (O7): an empty payload, an unknown code, a wrong length, and the
broadcasts that are discarded. -/

namespace Sys2Proof.Machine

variable {s : State} {tag : Byte}

/-! ### Refused by code or length (R157, R158) -/

theorem fits_eq_false_iff {code : RequestCode} {n : Nat} : code.fits n = false ↔ ¬ code.HasLength n := by
  rw [← Bool.not_eq_true, RequestCode.fits_iff]

theorem byte_of_ofByte {b : Byte} {code : RequestCode} (h : RequestCode.ofByte b = some code) :
    code.byte = b := by
  have found : (code.code == b) = true := List.find?_some (p := fun c : RequestCode => c.code == b) h
  rw [← code.code_eq_byte]
  exact eq_of_beq found

namespace State

/-- A unicast request that begins with no code of Table 9-1 is answered NO_SUCH with that byte. -/
theorem executeUnicast_unknown {c : Byte} {fields : List Byte} (hc : ∀ code : RequestCode, code.byte ≠ c) :
    s.executeUnicast tag (c :: fields) = s.answered tag [c, 0x04] := by
  simp only [executeUnicast, RequestCode.ofByte_eq_none.2 hc]
  rfl

/-- Only the four codes of R157 are accepted as broadcasts. -/
theorem not_broadcastable {code : RequestCode} (h04 : code.byte ≠ 0x04) (h24 : code.byte ≠ 0x24)
    (h40 : code.byte ≠ 0x40) (h41 : code.byte ≠ 0x41) : code.broadcastable = false := by
  cases code
  case noticeOutput => exact absurd rfl h04
  case writeGroup => exact absurd rfl h24
  case aisleHold => exact absurd rfl h40
  case aisleRelease => exact absurd rfl h41
  all_goals rfl

/-- A broadcast of another code is discarded, be the code in Table 9-1 or not. -/
theorem executeBroadcast_discarded {c : Byte} {fields : List Byte} (h04 : c ≠ 0x04) (h24 : c ≠ 0x24)
    (h40 : c ≠ 0x40) (h41 : c ≠ 0x41) : s.executeBroadcast tag (c :: fields) = s := by
  simp only [executeBroadcast]
  split
  · rfl
  · rename_i code hcode
    obtain rfl := byte_of_ofByte hcode
    rw [not_broadcastable h04 h24 h40 h41]
    rfl

/-- A broadcast of an accepted code at a wrong length is refused without an answer. -/
theorem submit_broadcast_of_not_hasLength {code : RequestCode} {fields : List Byte} (h : s.TakesAtOnce)
    (hb : code.broadcastable = true) (hl : ¬ code.HasLength (fields.length + 1)) :
    s.submit (addressed true code tag fields) = s := by
  rw [submit_taken h, execute_broadcast code hb,
    answer_of_not_fits code (code.code :: fields) (fits_eq_false_iff.2 hl)]
  rfl

end State

open State

theorem exec_unknownRequest (h : s.TakesAtOnce) (payload : List Byte) :
    exec (.unknownRequest tag payload) s = .next (s.executeUnicast tag payload) :=
  congrArg Host.Outcome.next (submit_taken h ⟨tag, false, payload⟩)

theorem exec_broadcastDiscarded (h : s.TakesAtOnce) (payload : List Byte) :
    exec (.broadcastDiscarded tag payload) s = .next (s.executeBroadcast tag payload) :=
  congrArg Host.Outcome.next (submit_taken h ⟨tag, true, payload⟩)

/-- A unicast request of a length that its code does not have is answered BAD_LENGTH. -/
theorem exec_command_of_not_hasLength (h : s.TakesAtOnce) {code : RequestCode} {fields : List Byte}
    (hl : ¬ code.HasLength (fields.length + 1)) :
    exec (code.command tag fields) s = .next (s.answered tag [code.byte, 0x02]) := by
  have hf := fits_eq_false_iff.2 hl
  rw [exec_command h code (by simp [hf]), answer_of_not_fits code (code.code :: fields) hf, reply_refuse,
    code.code_eq_byte]
  rfl

/-- Settles O7, check by check of R158 for a unicast request, then what R157 discards. -/
theorem refusedByCodeOrLength : Obligations.RefusedByCodeOrLength := by
  intro s tag h
  have wrong (code : RequestCode) (fields : List Byte) (hb : code.broadcastable = true)
      (hl : ¬ code.HasLength (fields.length + 1)) :
      Host.Outcome.next (s.submit (addressed true code tag fields)) = (.next s : Next) :=
    congrArg _ (submit_broadcast_of_not_hasLength h hb hl)
  refine ⟨exec_unknownRequest h [], fun c fields hc => ?_, fun code fields hl =>
    exec_command_of_not_hasLength h hl, exec_broadcastDiscarded h [], fun c fields h04 h24 h40 h41 => ?_,
    fun fields => ⟨fun hl => ?_, fun hl => ?_, fun hl => ⟨?_, ?_⟩⟩⟩
  · rw [exec_unknownRequest h, executeUnicast_unknown hc]
  · rw [exec_broadcastDiscarded h, executeBroadcast_discarded h04 h24 h40 h41]
  · exact wrong .noticeOutput fields rfl fun hn => hl (Nat.succ.inj hn)
  · exact wrong .writeGroup fields rfl fun hn => hl (Nat.succ.inj hn)
  · exact wrong .aisleHold fields rfl fun hn => hl (Nat.succ.inj hn)
  · exact wrong .aisleRelease fields rfl fun hn => hl (Nat.succ.inj hn)

end Sys2Proof.Machine
end

section
/-! The requests about the station: WRITE STATION (O10), IDENTIFY (O8) and READ STATUS (O9). -/

namespace Sys2Proof.Machine

open State

variable {s : State} {tag : Byte}

/-! ### WRITE STATION (R162, Table 9-3) -/

theorem Settings.bytes_length (w : Settings) : w.bytes.length = 13 := rfl

theorem QueueOrder.ofCode_code (o : QueueOrder) : QueueOrder.ofCode (byteOf o.code).toNat = some o := by
  cases o <;> rfl

theorem QueueOrder.ofCode_eq_none {n : Nat} : QueueOrder.ofCode n = none ↔ 1 < n := by
  rcases n with _ | _ | n <;> simp [QueueOrder.ofCode]

/-- The settings as written are read back (Table 9-3). -/
theorem settingsWritten_bytes (b : Byte) {w : Settings} (h : w.Carried) :
    settingsWritten (b :: w.bytes) w.queueOrder = w := by
  obtain ⟨hspacing, hburst, hhold, habsent, hpriority, hpa, hwa, hpb, hwb⟩ := h
  have two {x : Nat} (hx : x < 65536) : natOf [byteOf (x / 2 ^ 8), byteOf x] = x := natOf_be2 hx
  simp only [settingsWritten, Settings.bytes, fieldAt, be2, List.cons_append, List.nil_append,
    List.drop_succ_cons, List.drop_zero, List.take_succ_cons, List.take_zero, byteAt_succ, byteAt_zero,
    two hspacing, two hpa, two hpb, toNat_byteOf hburst, toNat_byteOf hhold, toNat_byteOf habsent,
    toNat_byteOf hpriority, toNat_byteOf hwa, toNat_byteOf hwb]

/-- The clamped settings as the statements write them. -/
theorem Settings.clamped_eq (w : Settings) : w.clamped =
    { queueOrder := w.queueOrder
      spacing := min 1000 w.spacing
      burst := max 1 (min 8 w.burst)
      holdLimit := max 1 (min 240 w.holdLimit)
      absentLimit := max 1 (min 255 w.absentLimit)
      nodePriority := min 7 w.nodePriority
      periodA := max 50 (min 1000 w.periodA)
      windowA := max 1 (min 10 w.windowA)
      periodB := max 50 (min 1000 w.periodB)
      windowB := max 1 (min 10 w.windowB) } := by
  simp only [Settings.clamped, clampTo, Nat.zero_max]

/-- A changed period that a running timer has reached expires it at once (R106): a sweep is owed while one is
in progress, and begins otherwise (R105). -/
theorem SweepEngine.newPeriod_eq (image : Image) (g : Segment) (old new : Nat) (e : SweepEngine) :
    e.newPeriod image g old new =
      if new = old ∨ e.timerExpired = true ∨ e.sinceStart < new then e
      else if e.visit.isSome then { e with owed := true, timerExpired := true }
      else e.startSweep image g := by
  have running : (old != new && !e.timerExpired && decide (new ≤ e.sinceStart)) = true ↔
      ¬ (new = old ∨ e.timerExpired = true ∨ e.sinceStart < new) := by
    simp only [Bool.and_eq_true, bne_iff_ne, Bool.not_eq_true', decide_eq_true_eq, not_or, Nat.not_lt,
      Bool.not_eq_true, and_assoc, ne_comm (a := old)]
  simp only [SweepEngine.newPeriod, running, ite_not]
  rfl

theorem exec_writeStation (h : s.TakesAtOnce) {fields : List Byte} (hf : fields.length = 13) :
    exec (.writeStation tag fields) s = .next (State.reply tag .writeStation
      (s.requestWriteStation (RequestCode.writeStation.code :: fields))) :=
  exec_command_fits h .writeStation (by decide) (by rw [hf]; rfl)

theorem requestWriteStation_stored (b : Byte) {w : Settings} (hw : w.Carried) :
    s.requestWriteStation (b :: w.bytes) =
      ⟨if w.clamped = w then .done else .adjusted, [], s.storeSettings w.clamped⟩ := by
  have order : QueueOrder.ofCode (byteAt (b :: w.bytes) 1) = some w.queueOrder :=
    w.queueOrder.ofCode_code
  simp only [State.requestWriteStation, order, settingsWritten_bytes b hw]

theorem requestWriteStation_badValue (b : Byte) {c : Byte} {rest : List Byte} (h : 1 < c.toNat) :
    s.requestWriteStation (b :: c :: rest) = s.refuse .badValue := by
  simp only [State.requestWriteStation, byteAt_succ, byteAt_zero, QueueOrder.ofCode_eq_none.2 h]

/-- Settles O10: the settings read back, clamped and stored, with R106 on both timers; then the refusal. -/
theorem writeStationStoresSettings : Obligations.WriteStationStoresSettings := by
  refine fun s tag h => ⟨fun w hw => ?_, fun code rest hr h0 h1 => ?_⟩
  · rw [exec_writeStation h w.bytes_length, requestWriteStation_stored _ hw]
    simp only [← w.clamped_eq, ← SweepEngine.newPeriod_eq]
    by_cases hc : w.clamped = w
    · simp only [if_pos hc]
      rfl
    · simp only [if_neg hc]
      rfl
  · have bad : 1 < code.toNat := by bv_omega
    rw [exec_writeStation h (by simp [hr]), requestWriteStation_badValue _ bad, reply_refuse]
    rfl

/-! ### IDENTIFY (R163) and READ STATUS (R164) -/

/-- Settles O8: the request's answer at an assigned station. -/
theorem identifyAnswersSettings : Obligations.IdentifyAnswersSettings := by
  intro s tag a h ha
  have answer : s.requestIdentify = ⟨.done, be2 0x1CFC ++ be2 a.toNat ++ s.mgmt.settings.bytes, s⟩ := by
    rw [State.requestIdentify, ha]
    rfl
  refine (exec_command_fits (fields := []) h .identify (by decide) rfl).trans ?_
  rw [State.perform, answer]
  rfl

/-- Settles O9: the fields as they stand, with nothing waiting in the intake FIFO, and what the read clears. -/
theorem readStatusAnswersAndClears : Obligations.ReadStatusAnswersAndClears := by
  intro s tag h
  obtain ⟨-, -, -, hintake⟩ := id h
  have waiting : byteOf s.mgmt.intake.length = 0x00 := by rw [hintake]; rfl
  refine (exec_command_fits (fields := []) h .readStatus (by decide) rfl).trans ?_
  simp only [State.perform, State.requestReadStatus, State.statusFields, waiting]
  rfl

end Sys2Proof.Machine
end

section
/-! READ LANE (O19): its three parts, and its refusals in their order. -/

namespace Sys2Proof.Machine

variable {s : State} {tag code n part : Byte}

theorem exec_readLane (h : s.TakesAtOnce) (n part : Byte) : exec (.readLane tag [n, part]) s =
    .next (State.reply tag .readLane (s.requestReadLane [RequestCode.readLane.code, n, part])) :=
  exec_command_fits (fields := [n, part]) h .readLane (by decide) rfl

theorem requestReadLane_no_lane (hn : index 128 n.toNat = none) :
    s.requestReadLane [code, n, part] = s.refuse .noSuch := by
  simp only [State.requestReadLane, byteAt_succ, byteAt_zero, hn]

theorem requestReadLane_no_part {i : Fin 128} (hn : index 128 n.toNat = some i)
    (hp : (s.lanes.get i).part part.toNat = none) :
    s.requestReadLane [code, n, part] = s.refuse .badValue := by
  simp only [State.requestReadLane, byteAt_succ, byteAt_zero, hn, hp]

theorem requestReadLane_part {i : Fin 128} {fields : List Byte} (hn : index 128 n.toNat = some i)
    (hp : (s.lanes.get i).part part.toNat = some fields) :
    s.requestReadLane [code, n, part] = ⟨.done, fields, s⟩ := by
  simp only [State.requestReadLane, byteAt_succ, byteAt_zero, hn, hp]

theorem Lane.part_eq_none (l : Lane) {k : Nat} (h : 2 < k) : l.part k = none := by
  obtain ⟨k, rfl⟩ := Nat.exists_eq_add_of_lt h
  rw [show 2 + k + 1 = k + 3 by omega]
  rfl

/-- READ LANE of a part answers its bytes and changes nothing. -/
theorem exec_readLane_part (h : s.TakesAtOnce) (n : Fin 128) {fields : List Byte}
    (hp : (s.lanes.get n).part part.toNat = some fields) :
    exec (.readLane tag [byteOf n.val, part]) s = .next (s.answered tag ([0x21, 0x00] ++ fields)) := by
  rw [exec_readLane h, requestReadLane_part (index_byteOf n (by decide)) hp]
  rfl

/-- Settles O19, part by part; then the lane number and the part number out of range. -/
theorem readLaneAnswersParts : Obligations.ReadLaneAnswersParts := by
  refine fun s tag h => ⟨fun n => ⟨?_, ?_, ?_⟩, fun n part => ⟨fun hn => ?_, fun hn hp => ?_⟩⟩
  · exact exec_readLane_part (part := 0x00) h n rfl
  · exact exec_readLane_part (part := 0x01) h n rfl
  · exact exec_readLane_part (part := 0x02) h n rfl
  · rw [exec_readLane h, requestReadLane_no_lane (index_of_le (Nat.succ_le_of_lt hn)), State.reply_refuse]
    rfl
  · rw [exec_readLane h, requestReadLane_no_part (index_of_lt (Nat.lt_succ_of_le hn))
      (Lane.part_eq_none _ hp), State.reply_refuse]
    rfl

end Sys2Proof.Machine
end

section
/-! A step runs the front command (O1), and what every event of a lane keeps of the ranges of its record (O55). -/

namespace Sys2Proof.Machine

/-- Settles O1: the step takes the queue apart. -/
theorem stepRunsFrontCommand : Obligations.StepRunsFrontCommand := fun _ _ _ => rfl

variable {l k m : Lane} {nodes : Table Node 64}

/-! ### Events that bring nothing out of range -/

/-- The event leaves the configuration, and none of what Table 1-2 bounds grows. -/
structure Lane.Within (l k : Lane) : Prop where
  config : k.config = l.config := by rfl
  cells : k.cells.length ≤ l.cells.length := by exact Nat.le_refl _
  window : k.window.length ≤ l.window.length := by exact Nat.le_refl _
  count : k.count ≤ l.count := by exact Nat.le_refl _
  unfitRun : k.unfitRun ≤ l.unfitRun := by exact Nat.le_refl _

theorem Lane.Within.inRange (w : l.Within k) (h : l.InRange) : k.InRange := by
  obtain ⟨hconfig, hcells, hwindow, hcount, hrun⟩ := h
  unfold Lane.InRange
  rw [w.config]
  exact ⟨hconfig, w.cells.trans hcells, w.window.trans hwindow, w.count.trans hcount, w.unfitRun.trans hrun⟩

namespace Lane

theorem Within.refl (l : Lane) : l.Within l := {}

theorem Within.trans (h : l.Within k) (g : k.Within m) : l.Within m where
  config := g.config.trans h.config
  cells := g.cells.trans h.cells
  window := g.window.trans h.window
  count := g.count.trans h.count
  unfitRun := g.unfitRun.trans h.unfitRun

theorem Within.ite {c : Prop} [Decidable c] (h : l.Within k) (g : l.Within m) :
    l.Within (if c then k else m) := by
  split_ifs
  · exact h
  · exact g

theorem within_clearWindow (l : Lane) : l.Within l.clearWindow where
  cells := (List.length_map _).le
  window := Nat.zero_le _

theorem within_cancelZeroing (l : Lane) : l.Within l.cancelZeroing := .ite {} {}

theorem within_setDoubt (l : Lane) : l.Within (l.setDoubt nodes) := {}

theorem within_enterUnbound (l : Lane) : l.Within l.enterUnbound :=
  (l.within_clearWindow.trans (within_cancelZeroing _)).trans { unfitRun := Nat.zero_le _ }

theorem within_enterAcquiring (l : Lane) : l.Within l.enterAcquiring :=
  l.within_clearWindow.trans { unfitRun := Nat.zero_le _ }

theorem within_enterBlind (l : Lane) : l.Within l.enterBlind :=
  (l.within_clearWindow.trans (within_cancelZeroing _)).trans {}

theorem within_enterBound (l : Lane) : l.Within (l.enterBound nodes) :=
  .ite l.within_enterBlind l.within_enterAcquiring

theorem within_nodeLost (l : Lane) : l.Within l.nodeLost := .ite l.within_enterBlind (.refl l)

theorem within_disturb (l : Lane) : l.Within l.disturb :=
  .ite (.refl l) (l.within_clearWindow.trans {})

theorem within_beginZeroing (now : Clock) (l : Lane) : l.Within (l.beginZeroing now) :=
  l.within_clearWindow.trans {}

theorem within_bayKey (now : Clock) (l : Lane) : l.Within (l.bayKey now) := .ite {} (.refl l)

theorem within_announce (l : Lane) : l.Within l.announce := .ite {} (.refl l)

theorem within_acknowledge (hold : Bool) (b : Band) (l : Lane) : l.Within (l.acknowledge hold b) := by
  rw [acknowledge_record]
  exact {}

theorem within_warm (l : Lane) : l.Within l.warm := by
  rw [warm_record]
  exact {
    cells := (List.length_map _).le
    window := Nat.zero_le _
    unfitRun := by
      simp only
      split_ifs
      · exact Nat.zero_le _
      · exact Nat.le_refl _ }

theorem within_takeDeadlines (now : Clock) (l : Lane) : l.Within (State.takeDeadlines now l) := by
  rw [takeDeadlines_eq, replenishTimed_frame, zeroingTimed_frame]
  exact {}

theorem within_settleDue (now : Clock) (b l : Lane) : l.Within (settleDue now b l) := by
  rw [settleDue_record]
  exact {}

theorem within_judge {groups : Table Group 16} {now : Clock} {hold hold' : Bool} (b l : Lane) :
    l.Within (judge groups now hold hold' b l) := by
  rw [judge_frame]
  exact {}

/-! ### Samples -/

theorem estimate_count_le (c : LaneConfig) (w : Int) : (estimate c w).count ≤ 4095 := Nat.min_le_right _ _

/-- Zeroing stores a tare within Table 1-1, counting a count of at most 4,095 and an unfit run of at most 255. -/
theorem InRange.settledResult (h : l.InRange) (w : Int) : (l.settledResult w).InRange := by
  obtain ⟨hconfig, hcells, hwindow, hcount, hrun⟩ := h
  cases hz : l.zeroDeadline with
  | some d =>
    obtain ⟨hunit, hunit', -, hrest⟩ := hconfig
    rw [settledResult_of_zeroing l w (by simp [hz])]
    exact ⟨⟨hunit, hunit', Nat.min_le_right _ _, hrest⟩, hcells, hwindow, Nat.zero_le _, Nat.zero_le _⟩
  | none =>
    rcases Bool.eq_false_or_eq_true (estimate l.config w).fit with hf | hf
    · rw [settledResult_of_fit l w hz hf]
      exact ⟨hconfig, hcells, hwindow, estimate_count_le _ _, Nat.zero_le _⟩
    · by_cases hr : l.config.unfitLimit ≤ min 255 (l.unfitRun + 1)
      · rw [settledResult_of_suspect l w hz hf hr]
        exact ⟨hconfig, hcells, hwindow, hcount, Nat.min_le_left _ _⟩
      · rw [settledResult_of_unfit l w hz hf (Nat.not_le.1 hr)]
        exact ⟨hconfig, hcells, hwindow, hcount, Nat.min_le_left _ _⟩

/-- The newest N samples are at most N (R38). -/
theorem newest_length_le {α : Type} (xs : List α) (n : Nat) : (xs.drop (xs.length - n)).length ≤ n := by
  rw [List.length_drop]
  omega

theorem InRange.withWindow (h : l.InRange) {w : List Int} (hw : w.length ≤ l.config.settleCount) :
    ({ l with window := w } : Lane).InRange := by
  obtain ⟨hconfig, hcells, -, hrest⟩ := h
  exact ⟨hconfig, hcells, hw, hrest⟩

theorem InRange.joinWindow (h : l.InRange) (x : Int) : (l.joinWindow x).InRange := by
  have joined := h.withWindow (newest_length_le (l.window ++ [x]) _)
  rw [joinWindow_eq, ← LaneState.disturbed_eq]
  split_ifs
  · exact joined
  · exact joined.settledResult _
  · exact Within.inRange {} joined

theorem InRange.takeSample (h : l.InRange) (sum : Int) (valid : Bool) :
    (l.takeSample nodes sum valid).InRange := by
  by_cases hu : l.state = .unbound
  · rw [l.takeSample_of_unbound nodes sum hu]
    exact h
  by_cases hb : l.state = .blind
  · rw [l.takeSample_of_blind nodes sum hb]
    split_ifs
    · obtain ⟨-, -, -, -, -, -, -, -, hsettle, -⟩ := h.1
      exact (l.within_enterAcquiring.inRange h).withWindow (Nat.le_of_succ_le hsettle)
    · exact h
  · have hc : l.state.counting = true := by cases hs : l.state <;> simp_all [LaneState.counting]
    rw [l.takeSample_of_counting nodes sum hc]
    split_ifs
    · exact h.joinWindow sum
    · exact l.within_enterBlind.inRange h

theorem InRange.capture (h : l.InRange) (calibration : Table Calibration 256) (slot : Fin 64)
    (raws : List RawCell) : (l.capture nodes calibration slot raws).InRange := by
  have stored : l.Within { l with cells := l.cells.map (LaneCell.capture calibration slot raws) } :=
    { cells := (List.length_map _).le }
  unfold Lane.capture
  simp only
  split_ifs
  · exact ((stored.trans { cells := (List.length_map _).le }).inRange h).takeSample _ _
  · exact stored.inRange h
  · exact h

/-! ### Rewriting and completion -/

theorem within_rewritten (c : LaneConfig) (l : Lane) : ({ l with config := c } : Lane).Within (l.rewritten c) :=
  within_cancelZeroing _

theorem within_rewriteState (c : LaneConfig) (l : Lane) :
    ({ l with config := c } : Lane).Within (({ l with config := c } : Lane).rewriteState nodes l.config) := by
  have hc := l.within_rewritten c
  rw [rewriteState_eq]
  exact .ite (.ite hc (.ite ((hc.trans (within_enterBound _)).trans (within_setDoubt _))
    (hc.trans (within_enterUnbound _)))) (.ite (hc.trans (within_enterAcquiring _)) hc)

/-- A WRITE LANE stores a configuration within Table 1-1; the window keeps the newest N samples (R12). -/
theorem InRange.rewrite (h : l.InRange) {c : LaneConfig} (hc : c.InRange) : (l.rewrite nodes c).InRange := by
  obtain ⟨-, hcells, -, hcount, hrun⟩ := h
  have w := l.within_rewriteState (nodes := nodes) c
  have rested : ((({ l with config := c } : Lane).rewriteState nodes l.config).rewriteRest l.config).InRange := by
    rw [rewriteRest_eq]
    exact ⟨w.config ▸ hc, w.cells.trans hcells, newest_length_le _ _, w.count.trans hcount, w.unfitRun.trans hrun⟩
  unfold Lane.rewrite
  rw [rewriteBand_eq]
  exact Within.inRange {} rested

/-- A completed resolution gives the lane a list of at most 4 cells (R27, R29). -/
theorem InRange.complete (h : l.InRange) (changed : Table Bool 64) {new : List CellRef} (hn : new.length ≤ 4)
    (flag : Bool) : (l.complete nodes changed new flag).InRange := by
  have ⟨hconfig, _, _, hrest⟩ := h
  have relisted : (l.relisted new).InRange := (within_cancelZeroing _).inRange
    ⟨hconfig, by simpa using hn, Nat.zero_le _, hrest⟩
  have installed : (l.install nodes new).InRange := by
    rw [install_eq]
    exact Within.inRange ((Within.ite (within_enterBound _)
      (.ite (within_enterUnbound _) (.refl _))).trans (within_setDoubt _)) relisted
  unfold Lane.complete
  refine Within.inRange (l := if listChanged changed l.refs new then l.install nodes new else l) {} ?_
  split_ifs
  · exact installed
  · exact h

end Lane

end Sys2Proof.Machine
end

section
/-! The ranges of node records, relays, visits, images and settings, and what keeps each of them (O55). -/

namespace Sys2Proof.Machine

/-! ### Node records (Table 7-1) -/

namespace Node

variable {n : Node} {limit : Nat} {auto : Bool}

theorem InRange.seeError (h : n.InRange) (o : VisitOutcome) : (n.seeError o).InRange := by cases o <;> exact h

theorem reset_inRange (n : Node) : n.reset.InRange :=
  ⟨Nat.zero_le _, Nat.zero_le _, Nat.zero_le _, fun _ => Nat.zero_le _⟩

theorem returnActive_inRange (n : Node) : n.returnActive.InRange :=
  ⟨Nat.zero_le _, Nat.zero_le _, Nat.zero_le _, fun _ => Nat.zero_le _⟩

theorem InRange.good (h : n.InRange) : n.good.InRange := by
  obtain ⟨hscore, -, hprobe, hactive⟩ := h
  rw [good_record]
  refine ⟨(Nat.sub_le _ _).trans hscore, Nat.zero_le _, hprobe, fun hs => ?_⟩
  simp only at hs ⊢
  split_ifs at hs with hc
  rcases hc with ha | hle
  · exact (Nat.sub_le _ _).trans (hactive ha)
  · exact hle

theorem InRange.bad (h : n.InRange) : (n.bad auto).InRange := by
  obtain ⟨-, hmiss, hprobe, -⟩ := h
  by_cases past : 255 < n.score + 8
  · rw [bad_past_ceiling past]
    exact ⟨Nat.zero_le _, hmiss, Nat.zero_le _, nofun⟩
  · rw [bad_within_ceiling (Nat.not_lt.1 past)]
    refine ⟨Nat.not_lt.1 past, hmiss, hprobe, fun hs => ?_⟩
    simp only at hs ⊢
    split_ifs at hs with hd
    have : ¬ 128 ≤ n.score + 8 := fun hle => hd ⟨hs, hle⟩
    omega

theorem InRange.miss (h : n.InRange) : (n.miss limit).InRange := by
  obtain ⟨hscore, -, hprobe, hactive⟩ := h
  rw [miss_record]
  refine ⟨?_, Nat.min_le_left _ _, hprobe, fun hs => ?_⟩
  · simp only
    split_ifs <;> omega
  · simp only at hs ⊢
    generalize (if n.score < 128 then n.score + 8 else n.score) = score at hs ⊢
    split_ifs at hs with _ hd
    exact Nat.not_lt.1 fun hlt => hd ⟨hs, hlt⟩

theorem InRange.probe (h : n.InRange) (o : VisitOutcome) : (n.probe o).InRange := by
  have counted {k : Nat} (hk : k ≤ 64) : ({ n with probeRun := k } : Node).InRange := by
    obtain ⟨hscore, hmiss, -, hactive⟩ := h
    exact ⟨hscore, hmiss, hk, hactive⟩
  cases o with
  | good =>
    unfold Node.probe
    simp only
    split_ifs with hrun
    · exact returnActive_inRange _
    · exact counted hrun
    · exact h
  | _ => exact counted (Nat.zero_le _)

/-- Taking an outcome keeps the record within Table 7-1 (R123 to R129). -/
theorem InRange.judge (h : n.InRange) (o : VisitOutcome) : (n.judge limit auto o).InRange := by
  have seen := h.seeError o
  unfold Node.judge
  simp only
  split_ifs
  · exact seen.probe o
  · cases o with
    | good => exact seen.good
    | missed => exact seen.miss
    | _ => exact seen.bad

theorem InRange.settleDue (h : n.InRange) (now : Clock) (b : Node) : (settleDue now b n).InRange := by
  rw [settleDue_record]
  exact h

end Node

/-! ### Relays (Table 6-3) -/

/-- One relay of a queue within Table 6-3. -/
def Relay.InRange (r : Relay) : Prop :=
  1 ≤ r.address.toNat ∧ r.address.toNat ≤ 62 ∧ 1 ≤ r.message.length ∧ r.message.length ≤ 16 ∧ r.failed ≤ 3

theorem relaysInRange_iff {rs : List Relay} : relaysInRange rs ↔ rs.length ≤ 8 ∧ ∀ r ∈ rs, r.InRange := Iff.rfl

theorem Relay.InRange.answer {r : Relay} (h : r.InRange) (o : Except VisitOutcome Bool) :
    (r.answer o).InRange := by
  have ⟨ha, ha', hm, hm', _⟩ := h
  unfold Relay.answer
  split
  · exact h
  · exact h
  · unfold Relay.fail
    split_ifs with hf
    · exact ⟨ha, ha', hm, hm', Nat.le_of_succ_le (Nat.succ_lt_succ hf)⟩
    · exact ⟨ha, ha', hm, hm', Nat.le_refl _⟩

theorem relaysInRange_nil : relaysInRange [] := ⟨Nat.zero_le _, nofun⟩

theorem relaysInRange.map {rs : List Relay} (h : relaysInRange rs) {f : Relay → Relay}
    (hf : ∀ r : Relay, r.InRange → (f r).InRange) : relaysInRange (rs.map f) := by
  obtain ⟨hl, hr⟩ := relaysInRange_iff.1 h
  refine relaysInRange_iff.2 ⟨(List.length_map _).trans_le hl, fun x hx => ?_⟩
  obtain ⟨r, hmem, rfl⟩ := List.mem_map.1 hx
  exact hf r (hr r hmem)

theorem relaysInRange.filter {rs : List Relay} (h : relaysInRange rs) (p : Relay → Bool) :
    relaysInRange (rs.filter p) :=
  ⟨(List.length_filter_le _ _).trans h.1, fun r hr => h.2 r (List.mem_of_mem_filter hr)⟩

theorem relaysInRange.append {rs : List Relay} (h : relaysInRange rs) (hl : rs.length < 8) {r : Relay}
    (hr : r.InRange) : relaysInRange (rs ++ [r]) := by
  refine relaysInRange_iff.2 ⟨by simpa using hl, fun x hx => ?_⟩
  rcases List.mem_append.1 hx with hx | hx
  · exact h.2 x hx
  · exact List.mem_singleton.1 hx ▸ hr

theorem relaysInRange.lose {rs : List Relay} (h : relaysInRange rs) (address : BitVec 6) :
    relaysInRange (loseRelays address rs) :=
  h.map fun r hr => by
    split_ifs
    · exact hr
    · exact hr

/-! ### Visits and sweep engines (R107, R108) -/

/-- A visit of segment `g` within Table 2-5. -/
def Visit.InRange (g : Segment) (v : Visit) : Prop := segmentOf v.slot = g ∧ 1 ≤ v.cellCount ∧ v.cellCount ≤ 4

/-- A sweep engine of segment `g`: its relay queue and its visit. -/
structure SweepEngine.InRange (g : Segment) (e : SweepEngine) : Prop where
  relays : relaysInRange e.relays
  visit : ∀ v, e.visit = some v → v.InRange g

theorem SweepEngine.inRange_iff {g : Segment} {e : SweepEngine} :
    e.InRange g ↔ relaysInRange e.relays ∧ e.visitInRange g :=
  ⟨fun h => ⟨h.relays, h.visit⟩, fun ⟨hr, hv⟩ => ⟨hr, hv⟩⟩

/-- A visit begins with what an occupied position of the segment records. -/
theorem beginVisit_inRange {image : Image} (h : image.InRange) {g : Segment} {low : Nat} {slot : Fin 64}
    (hs : image.occupiedFrom g low = some slot) (e : SweepEngine) : (beginVisit e image slot).InRange g := by
  obtain ⟨-, hsweep, -⟩ := h
  obtain ⟨h1, h4, -⟩ := hsweep slot
  exact ⟨(Image.occupiedFrom_some hs).1, h1, h4⟩

namespace SweepEngine

variable {g : Segment} {e : SweepEngine} {image : Image}

theorem cold_inRange : SweepEngine.cold.InRange g := ⟨relaysInRange_nil, nofun⟩

theorem restart_inRange (e : SweepEngine) : e.restart.InRange g := ⟨relaysInRange_nil, nofun⟩

theorem InRange.withRelays (h : e.InRange g) {rs : List Relay} (hr : relaysInRange rs) :
    ({ e with relays := rs } : SweepEngine).InRange g := ⟨hr, h.visit⟩

theorem InRange.withVisit (h : e.InRange g) {v : Visit} (hv : v.InRange g) :
    ({ e with visit := some v } : SweepEngine).InRange g :=
  ⟨h.relays, fun _ hw => Option.some.inj hw ▸ hv⟩

/-- The visit in progress changes, and keeps its slot and its cell count. -/
theorem InRange.mapVisit (h : e.InRange g) {f : Visit → Visit} (hf : ∀ v : Visit, v.InRange g → (f v).InRange g) :
    ({ e with visit := e.visit.map f } : SweepEngine).InRange g := by
  refine ⟨h.relays, fun w hw => ?_⟩
  obtain ⟨v, hv, rfl⟩ := Option.map_eq_some_iff.1 hw
  exact hf v (h.visit v hv)

theorem InRange.startSweep (h : e.InRange g) (hi : image.InRange) : (e.startSweep image g).InRange g := by
  refine ⟨h.relays, fun w hw => ?_⟩
  obtain ⟨slot, hs, rfl⟩ := Option.map_eq_some_iff.1 hw
  exact beginVisit_inRange hi hs e

theorem InRange.endVisit (h : e.InRange g) (hi : image.InRange) (slot : Fin 64) :
    (e.endVisit image g slot).InRange g := by
  unfold SweepEngine.endVisit
  split
  · rename_i next hs
    exact h.withVisit (beginVisit_inRange hi hs e)
  · split_ifs
    · exact InRange.startSweep (e := { e with owed := false, late := true }) ⟨h.relays, h.visit⟩ hi
    · exact ⟨h.relays, nofun⟩

theorem InRange.expire (h : e.InRange g) (hi : image.InRange) : (e.expire image g).InRange g := by
  unfold SweepEngine.expire
  split_ifs
  · exact ⟨h.relays, h.visit⟩
  · exact h.startSweep hi

theorem InRange.newPeriod (h : e.InRange g) (hi : image.InRange) (old new : Nat) :
    (e.newPeriod image g old new).InRange g := by
  unfold SweepEngine.newPeriod
  split_ifs
  · exact h.expire hi
  · exact h

theorem InRange.elapse (h : e.InRange g) (d : Nat) : (e.elapse d).InRange g :=
  InRange.mapVisit (e := { e with sinceStart := e.sinceStart + d }) ⟨h.relays, h.visit⟩ fun _ hv => hv

end SweepEngine

/-! ### Fields of a payload -/

/-- Bytes spell a number below 256 to the power of their count. -/
theorem natOf_lt (bs : List Byte) : natOf bs < 256 ^ bs.length := by
  induction bs using List.reverseRecOn with
  | nil => exact Nat.one_pos
  | append_singleton bs b ih =>
    have hb := b.isLt
    rw [natOf, List.foldl_append, List.length_append, Nat.pow_add]
    simp only [List.foldl_cons, List.foldl_nil, List.length_singleton, Nat.pow_one]
    unfold natOf at ih
    omega

theorem fieldAt_lt (p : List Byte) (i len : Nat) : fieldAt p i len < 256 ^ len :=
  (natOf_lt _).trans_le (Nat.pow_le_pow_right (by decide) (List.length_take_le _ _))

theorem byteAt_lt (p : List Byte) (i : Nat) : byteAt p i < 256 := BitVec.isLt _

theorem laneWrite_carried (p : List Byte) : (laneWrite p).Carried :=
  ⟨fieldAt_lt p 7 2, fieldAt_lt p 9 4, fieldAt_lt p 13 2, fieldAt_lt p 15 2, fieldAt_lt p 17 2, byteAt_lt p 19,
    byteAt_lt p 20, fieldAt_lt p 21 2, fieldAt_lt p 23 2, byteAt_lt p 25, byteAt_lt p 26, fieldAt_lt p 27 2,
    byteAt_lt p 29⟩

/-- The clamped fields lie within Table 1-1 (R1); a unit weight of 0 is refused, not clamped. -/
theorem LaneWrite.stored_inRange {w : LaneWrite} (h : w.Carried) (hw : w.unitWeight ≠ 0) (g : Fin 16) :
    (w.stored g).InRange := by
  obtain ⟨hu, ht, hcap, hlow, hcrit, hhys, hsc, hsb, htf, htu, hlim, hrep, hgrp⟩ := h
  simp only [LaneConfig.InRange, LaneWrite.stored, clampTo, Config.maxTare]
  omega

theorem Settings.clamped_inRange (w : Settings) : w.clamped.InRange := by
  simp only [Settings.InRange, Settings.clamped_eq]
  omega

/-! ### Images (Tables 2-4 and 2-5) -/

namespace Image

variable {image : Image}

theorem InRange.withCalibration (h : image.InRange) (i : Fin 256) {c : Calibration}
    (hz : -8388608 ≤ c.zero ∧ c.zero ≤ 8388607) (hg : 1 ≤ c.gain ∧ c.gain ≤ 65535) :
    ({ image with calibration := image.calibration.set i c } : Image).InRange := by
  obtain ⟨hcal, hsweep⟩ := h
  refine ⟨fun j => ?_, hsweep⟩
  rw [Table.get_set]
  split_ifs
  · exact ⟨hz.1, hz.2, hg.1, hg.2⟩
  · exact hcal j

/-- A loaded position holds the record written there, or what it held. -/
theorem loadedPosition_cases (sweep : Table SweepPosition 64) (g : Segment) (first : Nat)
    (records : List SweepPosition) (slot : Fin 64) :
    loadedPosition sweep g first records slot = sweep.get slot
      ∨ segmentOf slot = g ∧ loadedPosition sweep g first records slot ∈ records := by
  unfold loadedPosition
  split_ifs with h
  · cases hr : records[slot.val % 32 - first]? with
    | none => exact .inl rfl
    | some r => exact .inr ⟨h.1, List.mem_of_getElem? hr⟩
  · exact .inl rfl

/-- A list accepted by the checks of R23: its records lie within Table 2-5, the list of the other segment stays,
and none of the segment's addresses stands twice. -/
theorem InRange.withRecords (h : image.InRange) {g : Segment} {first : Nat} {records : List SweepPosition}
    (hfit : first + records.length ≤ 32) (hrec : records.all SweepPosition.acceptable = true)
    (hdup : State.duplicateAddress (State.writePositions image.sweep g first records) g = false) :
    ({ image with sweep := State.writePositions image.sweep g first records } : Image).InRange := by
  obtain ⟨hcal, hsweep, hdistinct⟩ := h
  rw [duplicateAddress_eq_false] at hdup
  rw [writePositions_eq g records hfit] at hdup ⊢
  have loaded := loadedPosition_cases image.sweep g first records
  refine ⟨hcal, fun i => ?_, fun i j hij => ?_⟩
  · simp only [Table.get_build]
    rcases loaded i with he | ⟨-, hm⟩
    · rw [he]
      exact hsweep i
    · exact (SweepPosition.acceptable_iff _).1 (List.all_eq_true.1 hrec _ hm)
  · by_cases hg : segmentOf i = g
    · exact hdup i j hg (hij ▸ hg)
    · have kept {k : Fin 64} (hk : segmentOf k ≠ g) :
          loadedPosition image.sweep g first records k = image.sweep.get k :=
        (loaded k).resolve_right fun hr => hk hr.1
      simp only [Table.get_build]
      rw [kept hg, kept (hij ▸ hg)]
      exact hdistinct i j hij

end Image

/-- No list of a resolution holds more than 4 cells (R27). -/
theorem resolve_length_le (staged active : Image) (n : Fin 128) :
    ((resolve staged active).lists.get n).length ≤ 4 := by
  have h := Building.resolved_foldl (image := staged) staged.cells
  unfold resolve
  rw [h.lists n]
  exact List.length_take_le _ _

end Sys2Proof.Machine
end

section
/-! What an operation of the part does to the queue of commands (O3) and to the ranges of the state (O55): events,
sweeps and visits, completion, aisle hold and the key. -/

namespace Sys2Proof.Machine

/-- The Notice Unit within R88 and Table 5-1. -/
structure NoticeUnit.InRange (u : NoticeUnit) : Prop where
  queue : u.queue.length ≤ 32
  groups : ∀ g : Fin 16, (u.groups.get g).priority ≤ 7

namespace State

variable {s t u : State} {g : Segment}

/-- `State.InRange` block by block. -/
structure Ranged (s : State) : Prop where
  backbone : s.backbone.InRange
  mgmt : s.mgmt.InRange
  notice : s.notice.InRange
  staged : s.staged.InRange
  active : s.active.InRange
  lanes : ∀ n, (s.lanes.get n).InRange
  nodes : ∀ i, (s.nodes.get i).InRange
  sweep : ∀ g, (s.sweep g).InRange g

theorem inRange_iff : s.InRange ↔ s.Ranged := by
  constructor
  · rintro ⟨hb, hm, hq, hg, hs, ha, hl, hn, hra, hrb, hva, hvb⟩
    refine ⟨hb, hm, ⟨hq, hg⟩, hs, ha, hl, hn, ?_⟩
    rintro (_ | _)
    · exact ⟨hra, hva⟩
    · exact ⟨hrb, hvb⟩
  · rintro ⟨hb, hm, ⟨hq, hg⟩, hs, ha, hl, hn, hsweep⟩
    exact ⟨hb, hm, hq, hg, hs, ha, hl, hn, (hsweep .a).relays, (hsweep .b).relays, (hsweep .a).visit,
      (hsweep .b).visit⟩

/-- What every operation of the part does: the queue of commands stays, and so do the ranges. -/
structure Advances (s t : State) : Prop where
  pending : t.pending = s.pending
  ranged : s.Ranged → t.Ranged

namespace Advances

theorem refl (s : State) : s.Advances s := ⟨rfl, id⟩

theorem trans (h : s.Advances t) (k : t.Advances u) : s.Advances u :=
  ⟨k.pending.trans h.pending, k.ranged ∘ h.ranged⟩

theorem ite {c : Prop} [Decidable c] (h : s.Advances t) (k : s.Advances u) :
    s.Advances (if c then t else u) := by
  split_ifs
  · exact h
  · exact k

/-- An operation that keeps each block within its ranges by itself. -/
theorem of_blocks (pending : t.pending = s.pending := by rfl)
    (backbone : s.backbone.InRange → t.backbone.InRange := by exact id)
    (mgmt : s.mgmt.InRange → t.mgmt.InRange := by exact id)
    (notice : s.notice.InRange → t.notice.InRange := by exact id)
    (staged : s.staged.InRange → t.staged.InRange := by exact id)
    (active : s.active.InRange → t.active.InRange := by exact id)
    (lanes : ∀ n, (s.lanes.get n).InRange → (t.lanes.get n).InRange := by exact fun _ => id)
    (nodes : ∀ i, (s.nodes.get i).InRange → (t.nodes.get i).InRange := by exact fun _ => id)
    (sweepA : s.sweepA.InRange .a → t.sweepA.InRange .a := by exact id)
    (sweepB : s.sweepB.InRange .b → t.sweepB.InRange .b := by exact id) : s.Advances t where
  pending := pending
  ranged h := {
    backbone := backbone h.backbone
    mgmt := mgmt h.mgmt
    notice := notice h.notice
    staged := staged h.staged
    active := active h.active
    lanes := fun n => lanes n (h.lanes n)
    nodes := fun i => nodes i (h.nodes i)
    sweep := fun g => by
      cases g with
      | a => exact sweepA (h.sweep .a)
      | b => exact sweepB (h.sweep .b) }

end Advances

/-! ### Lanes, nodes and sweep engines -/

theorem advances_mapLanes (s : State) {f : Lane → Lane} (hf : ∀ l : Lane, l.InRange → (f l).InRange) :
    s.Advances (s.mapLanes f) :=
  .of_blocks (lanes := fun n h => by
    rw [mapLanes_lanes, Table.get_map]
    exact hf _ h)

theorem advances_modifyLane (s : State) (n : Fin 128) {f : Lane → Lane}
    (hf : ∀ l : Lane, l.InRange → (f l).InRange) : s.Advances (s.modifyLane n f) :=
  .of_blocks (lanes := fun m h => by
    rw [modifyLane_lanes, Table.get_modify]
    split_ifs
    · exact hf _ h
    · exact h)

theorem advances_setNode (s : State) (i : Fin 64) {k : Node} (hk : (s.nodes.get i).InRange → k.InRange) :
    s.Advances (s.setNode i k) :=
  .of_blocks (nodes := fun j h => by
    rw [setNode_nodes, Table.get_set]
    split_ifs with hij
    · subst hij
      exact hk h
    · exact h)

theorem advances_setSweep {e : SweepEngine} (he : s.Ranged → e.InRange g) : s.Advances (s.setSweep g e) where
  pending := setSweep_pending s g e
  ranged h := {
    backbone := by simpa using h.backbone
    mgmt := by simpa using h.mgmt
    notice := by simpa using h.notice
    staged := by simpa using h.staged
    active := by simpa using h.active
    lanes := by simpa using h.lanes
    nodes := by simpa using h.nodes
    sweep := fun k => by
      by_cases hk : g = k
      · subst hk
        simpa using he h
      · rw [setSweep_sweep_ne _ _ hk]
        exact h.sweep k }

theorem advances_setRelays {rs : List Relay} (hr : relaysInRange (s.sweep g).relays → relaysInRange rs) :
    s.Advances (s.setRelays g rs) :=
  advances_setSweep fun h => (h.sweep g).withRelays (hr (h.sweep g).relays)

/-- The visit put in progress is in range if the state was before the operations that led here. -/
theorem Advances.setVisit (h : u.Advances s) {v : Visit} (hv : u.Ranged → v.InRange g) :
    u.Advances (s.setVisit g (some v)) where
  pending := (setVisit_pending s g _).trans h.pending
  ranged hu :=
    (advances_setSweep (g := g) fun hs => (hs.sweep g).withVisit (hv hu)).ranged (h.ranged hu)

/-! ### The notice queue and the closing of an event (R88, R89) -/

theorem advances_of_notice (s : State) {u : NoticeUnit} (hq : u.queue.length ≤ s.notice.queue.length)
    (hg : u.groups = s.notice.groups) : s.Advances { s with notice := u } :=
  .of_blocks (notice := fun h => ⟨hq.trans h.queue, hg ▸ h.groups⟩)

theorem advances_enqueue (x : Subject) (h : s.notice.queue.length < Config.noticeQueueSize) :
    s.Advances (s.enqueue x) :=
  .of_blocks (notice := fun hu => ⟨List.length_append.trans_le h, hu.groups⟩)

theorem advances_admitUpTo (fuel : Nat) (s : State) : s.Advances (s.admitUpTo fuel) := by
  induction fuel generalizing s with
  | zero => exact .refl s
  | succ fuel ih =>
    unfold admitUpTo
    split
    · rename_i hroom
      split
      · exact (advances_enqueue _ hroom).trans (ih _)
      · exact .refl s
    · exact .refl s

theorem advances_admitDeferred (s : State) : s.Advances s.admitDeferred := advances_admitUpTo _ s

theorem advances_joinQueue (s : State) (x : Subject) : s.Advances (s.joinQueue x) := by
  unfold joinQueue
  split
  · rename_i hroom
    exact advances_enqueue x hroom
  · exact s.advances_of_notice (Nat.le_refl _) rfl

theorem advances_joinAll (xs : List Subject) (s : State) : s.Advances (xs.foldl joinQueue s) := by
  induction xs generalizing s with
  | nil => exact .refl s
  | cons x xs ih => exact (s.advances_joinQueue x).trans (ih _)

theorem advances_leaveQueue (s : State) (xs : List Subject) : s.Advances (s.leaveQueue xs) := by
  have left : s.Advances (s.without xs) := s.advances_of_notice (List.length_filter_le _ _) rfl
  exact .ite (left.trans (advances_admitDeferred _)) left

theorem advances_refreshBeacons (s : State) : s.Advances s.refreshBeacons :=
  s.advances_of_notice (Nat.le_refl _) rfl

theorem advances_dueSettled (b s : State) : s.Advances (dueSettled b s) :=
  .of_blocks
    (lanes := fun n h => by
      rw [dueSettled, Table.get_zipWith]
      exact (Lane.within_settleDue _ _ _).inRange h)
    (nodes := fun i h => by
      rw [dueSettled, Table.get_zipWith]
      exact h.settleDue _ _)

theorem Advances.close (h : s.Advances t) (b : State) : s.Advances (State.close b t) :=
  h.trans <| (((advances_dueSettled b t).trans (advances_leaveQueue _ _)).trans
    (advances_joinAll _ _)).trans (advances_refreshBeacons _)

/-! ### Time and aisle hold -/

theorem advances_elapse (s : State) (d : Nat) : s.Advances (s.elapse d) :=
  .of_blocks (notice := fun h => ⟨h.queue, h.groups⟩) (sweepA := fun h => h.elapse d)
    (sweepB := fun h => h.elapse d)

theorem advances_startHold (s : State) : s.Advances s.startHold := s.advances_of_notice (Nat.le_refl _) rfl

theorem advances_endHold (s : State) : s.Advances s.endHold := by
  unfold endHold
  split
  · refine Advances.close ?_ s
    have off : s.Advances { s with notice := { s.notice with holdDeadline := none } } :=
      s.advances_of_notice (Nat.le_refl _) rfl
    exact off.trans (advances_mapLanes _ fun _ h => (Lane.within_judge _ _).inRange h)
  · exact .refl s

theorem advances_toggleHold (s : State) : s.Advances s.toggleHold :=
  .ite s.advances_endHold s.advances_startHold

theorem advances_shortPress (s : State) : s.Advances s.shortPress :=
  (s.advances_mapLanes fun _ h => Lane.Within.inRange {} h).trans (advances_refreshBeacons _)

theorem advances_takeKey (s : State) : s.Advances s.takeKey := by
  have settled : s.Advances { s with notice := { s.notice with debounce := none } } :=
    s.advances_of_notice (Nat.le_refl _) rfl
  refine settled.trans ?_
  unfold takeKey
  simp only
  split
  · split
    · exact advances_of_notice _ (Nat.le_refl _) rfl
    · exact .refl _
    · exact .refl _
  · split
    · refine Advances.trans ?_ (advances_shortPress _)
      exact advances_of_notice _ (Nat.le_refl _) rfl
    · exact advances_of_notice _ (Nat.le_refl _) rfl
    · exact .refl _

/-! ### Node health (R123 to R131) -/

theorem advances_reportNode (s : State) (slot : Fin 64) {k : Node} (hk : (s.nodes.get slot).InRange → k.InRange) :
    s.Advances (s.reportNode slot k) := by
  rw [reportNode_eq]
  refine Advances.trans ?_ (advances_setRelays fun h => ?_)
  · refine (s.advances_setNode slot (k := { k with
      statePending := k.statePending || k.state != (s.nodes.get slot).state }) hk).trans
      (advances_mapLanes _ fun l h => ?_)
    split_ifs
    · exact ((l.within_nodeLost.trans (Lane.within_setDoubt _)).trans (Lane.within_judge _ _)).inRange h
    · exact ((Lane.within_setDoubt _).trans (Lane.within_judge l _)).inRange h
    · exact h
  · split_ifs
    · exact h.lose _
    · exact h

theorem advances_nodeOutcome (s : State) (slot : Fin 64) (o : VisitOutcome) :
    s.Advances (s.nodeOutcome slot o) := s.advances_reportNode slot fun h => h.judge o

theorem advances_releaseNode (s : State) (slot : Fin 64) : s.Advances (s.releaseNode slot) :=
  .ite (.ite (s.advances_reportNode slot fun _ => Node.returnActive_inRange _)
    (s.advances_setNode slot fun h => h)) (.refl s)

end State

end Sys2Proof.Machine
end

section
/-! What an operation does to the queue of commands and to the ranges, continued: readings and relays, completion, the
starts, and the requests (O3, O55). -/

namespace Sys2Proof.Machine

namespace State

variable {s t u : State} {g : Segment} {v : Visit}

/-! ### Visits, readings and relays (R107 to R117) -/

theorem advances_endVisit (s : State) (g : Segment) (v : Visit) : s.Advances (s.endVisit g v) :=
  advances_setSweep fun h => (h.sweep g).endVisit h.active _

theorem Advances.relayStep (h : u.Advances s) (hv : u.Ranged → v.InRange g) : u.Advances (s.relayStep g v) := by
  have ended := h.trans (s.advances_endVisit g v)
  unfold State.relayStep
  split
  · exact .ite ended (h.setVisit hv)
  · exact ended

theorem advances_bayKeyEvent (s : State) (slot : Fin 64) : s.Advances (s.bayKeyEvent slot) :=
  s.advances_mapLanes fun l h => by
    split_ifs
    · exact (Lane.within_bayKey _ l).inRange h
    · exact h

theorem advances_capture (s : State) (slot : Fin 64) (cells : List RawCell) :
    s.Advances (s.capture slot cells) :=
  s.advances_mapLanes fun _ h => (Lane.within_judge _ _).inRange (h.capture _ _ _)

/-- The steps of a good reading before its relay step (R112). -/
theorem advances_readingMirrored (s : State) (g : Segment) (v : Visit) (r : Reading) :
    s.Advances (s.readingMirrored g v r) := by
  have accepted : s.Advances (s.sequenceAccepted v r) := (s.advances_nodeOutcome v.slot .good).trans .of_blocks
  have keyed : s.Advances (s.keyTaken v r) :=
    .ite ((accepted.trans (advances_bayKeyEvent _ _)).trans (advances_refreshBeacons _)) accepted
  have captured : s.Advances (s.cellsTaken v r) := .ite (keyed.trans (advances_capture _ _ _)) keyed
  exact .ite (captured.trans .of_blocks) captured

theorem advances_endPoll (hv : s.Ranged → v.InRange g) (o : Except VisitOutcome Reading) :
    s.Advances (s.endPoll g v o) := by
  unfold endPoll
  refine .ite (s.advances_endVisit g v) ?_
  split
  · rw [goodReading_eq]
    exact (s.advances_readingMirrored g v _).relayStep hv
  · exact (s.advances_nodeOutcome v.slot _).trans (advances_endVisit _ g v)

theorem advances_answerRelay (s : State) (g : Segment) (v : Visit) (n : Nat) (o : Except VisitOutcome Bool) :
    s.Advances (s.answerRelay g v n o) := by
  unfold answerRelay
  split
  · exact .refl s
  · have answered : s.Advances (s.setRelays g ((s.sweep g).relays.map (fun x =>
        if x.isOpen && x.acceptance == n then x.answer o else x))) :=
      advances_setRelays fun h => h.map fun r hr => by
        split_ifs
        · exact hr.answer o
        · exact hr
    refine .ite (answered.trans (advances_mapLanes _ fun l h => ?_)) answered
    split_ifs
    · exact l.within_disturb.inRange h
    · exact h

theorem advances_endRelay (s : State) (g : Segment) (v : Visit) (n : Nat) (o : Except VisitOutcome Bool) :
    s.Advances (s.endRelay g v n o) :=
  .ite (s.advances_endVisit g v) <|
    ((s.advances_answerRelay g v n o).trans (advances_nodeOutcome _ v.slot _)).trans (advances_endVisit _ g v)

/-- The visit in progress of a ranged state is in range. -/
theorem Ranged.visit (h : s.Ranged) (hv : (s.sweep g).visit = some v) : v.InRange g := (h.sweep g).visit v hv

/-- The visit in progress comes to another stage. -/
theorem advances_stage (hv : (s.sweep g).visit = some v) (x : Stage) :
    s.Advances (s.setVisit g (some { v with stage := x })) := by
  have hvisit (h : s.Ranged) : v.InRange g := h.visit hv
  exact (Advances.refl s).setVisit hvisit

theorem advances_endMissed (s : State) (g : Segment) : s.Advances (s.endMissed g) := by
  unfold endMissed
  split
  · exact .refl s
  · rename_i v hv
    split
    · exact advances_endPoll (fun h => h.visit hv) _
    · exact s.advances_endRelay g v _ _

/-! ### Completion and the starts -/

/-- The staged image becomes active, and what that changes (R28). -/
theorem advances_slotsChanged (s : State) (r : Resolution) : s.Advances (s.slotsChanged r) where
  pending := rfl
  ranged h := {
    h with
    active := h.staged
    nodes := fun i => by
      rw [slotsChanged, changeSlots_node]
      split_ifs
      · exact Node.reset_inRange _
      · exact h.nodes i
    sweep := fun g => by
      rw [slotsChanged, changeSlots_sweep]
      have marked := (h.sweep g).mapVisit
        (f := fun v => { v with changed := v.changed || r.changed.get v.slot }) fun _ hv => hv
      refine ⟨(h.sweep g).relays.map fun x hx => ?_, marked.visit⟩
      split_ifs
      · exact hx
      · exact hx }

theorem advances_lanesInstalled {r : Resolution} (hr : s.Ranged → ∀ n, (r.lists.get n).length ≤ 4) :
    s.Advances (s.lanesInstalled r) where
  pending := rfl
  ranged h := {
    (s.advances_slotsChanged r).ranged h with
    lanes := fun n => by
      rw [lanesInstalled, Table.get_build]
      exact (Lane.within_judge _ _).inRange ((h.lanes n).complete _ (hr h n) _) }

/-- No resolution is in flight any more. -/
theorem mgmt_withoutResolution {m : Management} (h : m.InRange) {e : EngineState}
    (he : ∀ tag r, e ≠ .committing tag r) (rep : Option Reply) :
    ({ m with engine := e, reply := rep } : Management).InRange := by
  obtain ⟨hsettings, hintake, -⟩ := h
  exact ⟨hsettings, hintake, fun tag r hr => absurd hr (he tag r)⟩

theorem advances_completed {tag : Byte} {r : Resolution} (he : s.mgmt.engine = .committing tag r) :
    s.Advances (s.completed tag r) := by
  have lists (h : s.Ranged) : ∀ n, (r.lists.get n).length ≤ 4 := by
    obtain ⟨-, -, hflight⟩ := h.mgmt
    exact hflight tag r he
  have installed : s.Advances (s.installResolution r) := (advances_lanesInstalled lists).close s
  exact ⟨installed.pending, fun h => {
    installed.ranged h with
    mgmt := mgmt_withoutResolution h.mgmt (by simp) _ }⟩

theorem advances_warmed (s : State) : s.Advances s.warmed :=
  .of_blocks
    (backbone := fun ⟨haddress, _⟩ => ⟨haddress, by simp [warmed, warmBackbone]⟩)
    (mgmt := fun ⟨hsettings, _⟩ => ⟨hsettings, Nat.zero_le _, nofun⟩)
    (notice := fun h => ⟨Nat.zero_le _, h.groups⟩)
    (lanes := fun n h => by
      rw [warmed, Table.get_map]
      exact ((Lane.within_warm _).trans (Lane.within_settleDue _ _ _)).inRange h)
    (nodes := fun i _ => by
      rw [warmed, Table.get_map]
      exact (s.nodes.get i).reset_inRange)
    (sweepA := fun _ => SweepEngine.restart_inRange _)
    (sweepB := fun _ => SweepEngine.restart_inRange _)

theorem advances_warmStart (s : State) : s.Advances s.warmStart := by
  rw [warmStart_eq, rebuildQueue_eq]
  have deferred : s.warmed.Advances s.warmed.dueDeferred := s.warmed.advances_of_notice (Nat.le_refl _) rfl
  exact ((s.advances_warmed.trans deferred).trans (advances_admitDeferred _)).trans (advances_refreshBeacons _)

theorem advances_coldStart (s : State) : s.Advances s.coldStart where
  pending := rfl
  ranged _ := {
    inRange_iff.1 reset_inRange with
    notice := ⟨Nat.zero_le _, fun g => by simp [coldStart, NoticeUnit.cold]⟩
    sweep := fun g => by cases g <;> exact SweepEngine.restart_inRange _ }

/-! ### The requests of the lanes, nodes and groups -/

theorem advances_acknowledgeAll (s : State) (pairs : List (Fin 128 × Band)) :
    s.Advances (s.acknowledgeAll pairs) := by
  unfold acknowledgeAll
  induction pairs generalizing s with
  | nil => exact .refl s
  | cons p rest ih =>
    exact (s.advances_modifyLane p.1 fun l h => (l.within_acknowledge _ _).inRange h).trans (ih _)

theorem advances_storeGroup (s : State) (n : Fin 16) {k : Group} (hk : k.priority ≤ 7) :
    s.Advances (s.storeGroup n k) := by
  have stored : s.Advances { s with notice := { s.notice with groups := s.notice.groups.set n k } } :=
    .of_blocks (notice := fun h => ⟨h.queue, fun i => by
      rw [Table.get_set]
      split_ifs
      · exact hk
      · exact h.groups i⟩)
  refine .ite (stored.trans (advances_mapLanes _ fun l h => ?_)) stored
  split_ifs
  · exact l.within_announce.inRange h
  · exact h

theorem advances_requestWriteLane (s : State) (p : List Byte) : s.Advances (s.requestWriteLane p).state := by
  unfold requestWriteLane
  simp only
  split
  · exact .refl s
  · split_ifs with hw
    · exact .refl s
    · split
      · exact .refl s
      · rename_i k _
        have hc := LaneWrite.stored_inRange (laneWrite_carried p) hw k
        exact (s.advances_modifyLane _ fun l h => (Lane.within_judge _ _).inRange (h.rewrite hc)).close s

theorem advances_requestReadLane (s : State) (p : List Byte) : s.Advances (s.requestReadLane p).state := by
  unfold requestReadLane
  split
  · exact .refl s
  · split <;> exact .refl s

theorem advances_requestZeroLane (s : State) (p : List Byte) : s.Advances (s.requestZeroLane p).state := by
  unfold requestZeroLane
  split
  · exact .refl s
  · rename_i n _
    have begun : s.Advances (s.modifyLane n (Lane.beginZeroing s.now)) :=
      s.advances_modifyLane n fun l h => (Lane.within_beginZeroing _ l).inRange h
    split
    · exact .refl s
    · exact .refl s
    all_goals exact begun

theorem advances_requestAcknowledge (s : State) (p : List Byte) : s.Advances (s.requestAcknowledge p).state := by
  unfold requestAcknowledge
  split
  · exact .refl s
  · exact (s.advances_acknowledgeAll _).close s

theorem advances_requestWriteGroup (s : State) (p : List Byte) : s.Advances (s.requestWriteGroup p).state := by
  unfold requestWriteGroup
  split
  · exact .refl s
  · split
    · exact (s.advances_storeGroup _ (Nat.le_of_lt_succ (Fin.isLt _))).close s
    · exact .refl s

theorem advances_requestReadNode (s : State) (p : List Byte) : s.Advances (s.requestReadNode p).state := by
  unfold requestReadNode
  split
  · exact .refl s
  · exact s.advances_setNode _ fun h => h

theorem advances_requestReleaseNode (s : State) (p : List Byte) : s.Advances (s.requestReleaseNode p).state := by
  unfold requestReleaseNode
  split
  · exact .refl s
  · exact (s.advances_releaseNode _).close s

/-- A RELAY is accepted with a message of 1 to 16 bytes for an address of 1 to 62, where the queue has room (R115). -/
theorem advances_requestRelay (s : State) (tag : Byte) (p : List Byte) :
    s.Advances (s.requestRelay tag p).state := by
  unfold requestRelay
  simp only
  split
  · exact .refl s
  · rename_i hlength
    split
    · exact .refl s
    · split
      · exact .refl s
      · rename_i haddress
        split
        · exact .refl s
        · rename_i hroom
          simp only [Bool.or_eq_true, decide_eq_true_eq, not_or, Nat.not_lt] at hlength haddress
          obtain ⟨hm, hm'⟩ := hlength
          obtain ⟨ha, ha'⟩ := haddress
          refine (advances_setRelays fun h => h.append (Nat.not_le.1 hroom) ?_).trans .of_blocks
          have hval : (BitVec.ofNat 6 (byteAt p 2)).toNat = byteAt p 2 := by
            rw [BitVec.toNat_ofNat]
            omega
          exact ⟨by rwa [hval], by rwa [hval], hm, hm', Nat.zero_le _⟩

/-! ### The requests of the station and of the images -/

theorem advances_storeSettings (s : State) (w : Settings) : s.Advances (s.storeSettings w.clamped) where
  pending := rfl
  ranged h := {
    h with
    mgmt := by
      obtain ⟨-, hrest⟩ := h.mgmt
      exact ⟨w.clamped_inRange, hrest⟩
    sweep := fun g => by
      cases g with
      | a => exact (h.sweep .a).newPeriod h.active _ _
      | b => exact (h.sweep .b).newPeriod h.active _ _ }

theorem advances_requestWriteStation (s : State) (p : List Byte) :
    s.Advances (s.requestWriteStation p).state := by
  unfold requestWriteStation
  split
  · exact .refl s
  · exact s.advances_storeSettings _

theorem advances_requestNoticeOutput (s : State) (p : List Byte) :
    s.Advances (s.requestNoticeOutput p).state := by
  unfold requestNoticeOutput
  split
  · exact .refl s
  · refine Advances.trans ?_ (advances_refreshBeacons _)
    exact s.advances_of_notice (Nat.le_refl _) rfl

/-- READ STATUS clears counts and flags (R164). -/
theorem advances_clearStatus (s : State) : s.Advances s.clearStatus :=
  .of_blocks
    (backbone := fun ⟨haddress, hup, hdown, hstreak, _⟩ =>
      ⟨haddress, hup, hdown, hstreak, by simp [clearStatus]⟩)
    (notice := fun h => ⟨h.queue, h.groups⟩) (sweepA := fun h => ⟨h.relays, h.visit⟩)
    (sweepB := fun h => ⟨h.relays, h.visit⟩)

theorem advances_withStaged {image : Image} (hi : s.staged.InRange → image.InRange) :
    s.Advances { s with staged := image } := .of_blocks (staged := hi)

theorem advances_requestWriteCapture (s : State) (p : List Byte) :
    s.Advances (s.requestWriteCapture p).state := by
  unfold requestWriteCapture
  split
  · split
    · exact advances_withStaged fun h => h
    · exact .refl s
  · exact .refl s

theorem advances_requestWriteMask (s : State) (p : List Byte) : s.Advances (s.requestWriteMask p).state := by
  unfold requestWriteMask
  split
  · exact .refl s
  · exact .refl s
  · exact advances_withStaged fun h => h

theorem advances_requestWriteCalibration (s : State) (p : List Byte) :
    s.Advances (s.requestWriteCalibration p).state := by
  unfold requestWriteCalibration
  split
  · exact .refl s
  · split_ifs with hgain
    · exact .refl s
    · refine advances_withStaged fun h => h.withCalibration _ ?_ ?_
      · have hlo := BitVec.le_toInt (BitVec.ofNat 24 (fieldAt p 3 3))
        have hhi := BitVec.toInt_lt (x := BitVec.ofNat 24 (fieldAt p 3 3))
        exact ⟨hlo, Int.le_of_lt_add_one hhi⟩
      · exact ⟨Nat.pos_of_ne_zero hgain, Nat.le_of_lt_succ (fieldAt_lt p 6 2)⟩

theorem advances_requestLoadSweepList (s : State) (p : List Byte) :
    s.Advances (s.requestLoadSweepList p).state := by
  unfold requestLoadSweepList
  simp only
  split
  · exact .refl s
  · split_ifs with hfit hrec hdup
    · exact .refl s
    · exact .refl s
    · exact .refl s
    · exact advances_withStaged fun h => h.withRecords (by omega) (by simpa using hrec) (by simpa using hdup)

theorem advances_requestDiscard (s : State) : s.Advances { s with staged := s.active } where
  pending := rfl
  ranged h := { h with staged := h.active }

/-! ### The engine (R154 to R160) -/

theorem advances_beginCommit (s : State) (tag : Byte) : s.Advances (s.beginCommit tag) :=
  .of_blocks (mgmt := fun ⟨hsettings, hintake, _⟩ => ⟨hsettings, hintake, fun _ _ hr n => by
    obtain ⟨-, rfl⟩ := EngineState.committing.inj hr
    exact resolve_length_le _ _ n⟩)

theorem advances_beginRestart (s : State) : s.Advances s.beginRestart :=
  .of_blocks (mgmt := fun h => mgmt_withoutResolution h (by simp) _)

theorem advances_perform (s : State) (code : RequestCode) (tag : Byte) (p : List Byte) :
    s.Advances (s.perform code tag p).state := by
  cases code with
  | identify => exact .refl s
  | readStatus => exact s.advances_clearStatus
  | writeStation => exact s.advances_requestWriteStation p
  | noticeOutput => exact s.advances_requestNoticeOutput p
  | writeCapture => exact s.advances_requestWriteCapture p
  | writeMask => exact s.advances_requestWriteMask p
  | writeCalibration => exact s.advances_requestWriteCalibration p
  | loadSweepList => exact s.advances_requestLoadSweepList p
  | commit => exact s.advances_beginCommit tag
  | discard => exact s.advances_requestDiscard
  | writeLane => exact s.advances_requestWriteLane p
  | readLane => exact s.advances_requestReadLane p
  | zeroLane => exact s.advances_requestZeroLane p
  | acknowledge => exact s.advances_requestAcknowledge p
  | writeGroup => exact s.advances_requestWriteGroup p
  | readNode => exact s.advances_requestReadNode p
  | releaseNode => exact s.advances_requestReleaseNode p
  | relay => exact s.advances_requestRelay tag p
  | aisleHold => exact s.advances_startHold
  | aisleRelease => exact s.advances_endHold
  | restart => exact s.advances_beginRestart

theorem advances_answer (s : State) (code : RequestCode) (tag : Byte) (p : List Byte) :
    s.Advances (s.answer code tag p).state := by
  unfold answer
  split
  · exact s.advances_perform code tag p
  · exact .refl s

theorem advances_putReply (s : State) (tag code : Byte) (r : Result) (fields : List Byte) :
    s.Advances (s.putReply tag code r fields) := .of_blocks

theorem advances_executeBroadcast (s : State) (tag : Byte) (p : List Byte) :
    s.Advances (s.executeBroadcast tag p) := by
  unfold executeBroadcast
  split
  · exact .refl s
  · split
    · exact .refl s
    · exact .ite (s.advances_answer _ _ _) (.refl s)

theorem advances_executeUnicast (s : State) (tag : Byte) (p : List Byte) :
    s.Advances (s.executeUnicast tag p) := by
  unfold executeUnicast
  split
  · exact s.advances_putReply _ _ _ _
  · split
    · exact s.advances_putReply _ _ _ _
    · exact .ite (s.advances_beginCommit _) ((s.advances_answer _ _ _).trans (advances_putReply _ _ _ _ _))

theorem advances_execute (s : State) (r : Request) : s.Advances (s.execute r) :=
  .ite (s.advances_executeBroadcast _ _) (s.advances_executeUnicast _ _)

theorem advances_withIntake {rs : List Request} (h : s.mgmt.intake.length ≤ 4 → rs.length ≤ 4) :
    s.Advances { s with mgmt := { s.mgmt with intake := rs } } :=
  .of_blocks (mgmt := fun ⟨hsettings, hintake, hflight⟩ => ⟨hsettings, h hintake, hflight⟩)

theorem advances_takeUpTo (fuel : Nat) (s : State) : s.Advances (s.takeUpTo fuel) := by
  induction fuel generalizing s with
  | zero => exact .refl s
  | succ fuel ih =>
    unfold takeUpTo
    split
    · split
      · exact .refl s
      · rename_i r rest hi
        have taken : s.Advances { s with mgmt := { s.mgmt with intake := rest } } :=
          advances_withIntake fun h => by
            rw [hi] at h
            exact Nat.le_of_succ_le h
        exact (taken.trans (advances_execute _ r)).trans (ih _)
    · exact .refl s

theorem advances_takeRequests (s : State) : s.Advances s.takeRequests := advances_takeUpTo _ s

theorem advances_deliver (s : State) (r : Request) : s.Advances (s.deliver r) := by
  unfold deliver
  split
  · rename_i hroom
    have joined : s.Advances { s with mgmt := { s.mgmt with intake := s.mgmt.intake ++ [r] } } :=
      advances_withIntake fun _ => List.length_append.trans_le hroom
    exact joined.trans (advances_takeRequests _)
  · exact .of_blocks

theorem advances_submit (s : State) (r : Request) : s.Advances (s.submit r) :=
  .ite (s.advances_deliver r) (.refl s)

end State

end Sys2Proof.Machine
end

section
/-! What each command does: it answers a next state with the queue of commands as it was (O3), and keeps every
record, queue and count within its table; and so does a step (O55). -/

namespace Sys2Proof.Machine

namespace State

variable {s t u : State}

/-! ### The backbone (R136 to R150) -/

theorem bump_le (n : Nat) : bump n ≤ 65535 := Nat.min_le_left _ _

theorem advances_buFault (s : State) : s.Advances s.buFault :=
  .of_blocks (backbone := fun ⟨ha, hup, hdown, hstreak, _, hrest⟩ =>
    ⟨ha, hup, hdown, hstreak, bump_le _, hrest⟩)

theorem advances_bdFault (s : State) : s.Advances s.bdFault :=
  .of_blocks (backbone := fun ⟨ha, hup, hdown, hstreak, hbu, _, hrest⟩ =>
    ⟨ha, hup, hdown, hstreak, hbu, bump_le _, hrest⟩)

theorem advances_forwardDown (s : State) (f : Frame) : s.Advances (s.forwardDown f) := by
  unfold forwardDown
  split
  · rename_i hroom
    exact .of_blocks (backbone := fun ⟨ha, hup, _, hrest⟩ =>
      ⟨ha, hup, List.length_append.trans_le hroom, hrest⟩)
  · exact .of_blocks (backbone := fun ⟨ha, hup, hdown, hstreak, hbu, hbd, hupDrops, _⟩ =>
      ⟨ha, hup, hdown, hstreak, hbu, hbd, hupDrops, bump_le _⟩)

theorem advances_forwardUp (s : State) (f : Frame) : s.Advances (s.forwardUp f) := by
  unfold forwardUp
  split
  · rename_i hroom
    exact .of_blocks (backbone := fun ⟨ha, _, hrest⟩ => ⟨ha, List.length_append.trans_le hroom, hrest⟩)
  · exact .of_blocks (backbone := fun ⟨ha, hup, hdown, hstreak, hbu, hbd, _, hdownDrops⟩ =>
      ⟨ha, hup, hdown, hstreak, hbu, hbd, bump_le _, hdownDrops⟩)

theorem advances_setClock (s : State) (value : Clock) : s.Advances (s.setClock value) := by
  unfold setClock
  split
  · exact .refl s
  · refine Advances.close ?_ s
    have set : s.Advances (s.clockSet value) := .of_blocks (notice := fun h => ⟨h.queue, h.groups⟩)
    exact set.trans (advances_mapLanes _ fun l h =>
      ((l.within_takeDeadlines value).trans (Lane.within_judge _ _)).inRange h)

/-- An ENUMERATE gives an unassigned station an address of 1 to 999 (R147). -/
theorem advances_withAddress (s : State) {next : Nat} (h1 : 1 ≤ next) (h999 : next ≤ 999) :
    s.Advances { s with backbone := { s.backbone with address := some (BitVec.ofNat 16 next) } } :=
  .of_blocks (backbone := fun ⟨_, hrest⟩ => ⟨fun a ha => by
    cases ha
    rw [BitVec.toNat_ofNat]
    omega, hrest⟩)

theorem advances_routeUnassigned (s : State) (f : Frame) : s.Advances (s.routeUnassigned f) := by
  unfold routeUnassigned
  simp only
  split
  · split
    · rename_i hn
      simp only [Bool.and_eq_true, decide_eq_true_eq] at hn
      obtain ⟨h1, h999⟩ := hn
      exact (s.advances_withAddress h1 h999).trans (advances_forwardDown _ _)
    · exact s.advances_forwardDown f
  · exact s.advances_forwardDown f

theorem advances_routeOwn (s : State) (f : Frame) : s.Advances (s.routeOwn f) :=
  .ite (s.advances_deliver _) (.ite (.ite (s.advances_setClock _) s.advances_buFault) s.advances_buFault)

theorem advances_routeAll (s : State) (a : BitVec 16) (f : Frame) : s.Advances (s.routeAll a f) :=
  .ite ((s.advances_deliver _).trans (advances_forwardDown _ f))
    (.ite ((Advances.ite (s.advances_setClock _) s.advances_buFault).trans (advances_forwardDown _ f))
      (.ite (.ite (s.advances_forwardDown _) (s.advances_buFault.trans (advances_forwardDown _ f)))
        (s.advances_forwardDown f)))

theorem advances_routeDown (s : State) (f : Frame) : s.Advances (s.routeDown f) := by
  unfold routeDown
  split
  · exact s.advances_routeUnassigned f
  · exact .ite (s.advances_routeAll _ f) (.ite (s.advances_routeOwn f) (s.advances_forwardDown f))

/-! ### The arbiter (R142, R143) -/

theorem advances_sendLocal (s : State) (f : Frame) : s.Advances (s.sendLocal f) :=
  .of_blocks (backbone := fun ⟨ha, hup, hdown, _, hrest⟩ => ⟨ha, hup, hdown, Nat.zero_le _, hrest⟩)

theorem advances_takeUp {f : Frame} {rest : List Frame} (h : s.backbone.upFifo = f :: rest) :
    s.Advances (s.takeUp f rest) :=
  .of_blocks (backbone := fun ⟨ha, hup, hdown, _, hrest⟩ => by
    rw [h] at hup
    refine ⟨ha, Nat.le_of_succ_le hup, hdown, ?_, hrest⟩
    simp only [takeUp]
    split_ifs
    · exact Nat.zero_le _
    · exact Nat.min_le_left _ _)

theorem advances_takeReply (s : State) (r : Reply) : s.Advances (s.takeReply r) := by
  have emptied : s.Advances { s with mgmt := { s.mgmt with reply := none } } := .of_blocks
  have sent := emptied.trans (advances_sendLocal _ (s.ownFrame kindReply r.tag r.payload))
  unfold takeReply
  simp only
  split
  · exact sent.trans (advances_warmStart _)
  all_goals exact sent.trans (advances_takeRequests _)

theorem advances_takeRelay (s : State) (g : Segment) (r : Relay) : s.Advances (s.takeRelay g r) :=
  (advances_setRelays fun h => h.filter _).trans (advances_sendLocal _ _)

theorem advances_takeMirror (s : State) (payload : List Byte) : s.Advances (s.takeMirror payload) := by
  have emptied : s.Advances { s with backbone := { s.backbone with mirror := none } } := .of_blocks
  exact emptied.trans (advances_sendLocal _ _)

theorem advances_clearKinds (s : State) (x : Subject) : s.Advances (s.clearKinds x) := by
  cases x with
  | lane n => exact s.advances_modifyLane n fun _ h => Lane.Within.inRange {} h
  | node i => exact s.advances_setNode i fun h => h

theorem advances_takeNotice {payload : List Byte} (h : s.takeNotice = some (payload, t)) : s.Advances t := by
  unfold takeNotice at h
  split at h
  · cases h
  · rename_i e _
    obtain ⟨-, rfl⟩ := Prod.mk.inj (Option.some.inj h)
    refine Advances.trans ((s.advances_clearKinds e.subject).trans ?_) (advances_admitDeferred _)
    exact advances_of_notice _ (List.length_filter_le _ _) rfl

theorem advances_takeLocal (h : s.takeLocal = some t) : s.Advances t := by
  unfold takeLocal at h
  split at h
  · cases h
  · split at h
    · cases h
      exact s.advances_takeReply _
    · split at h
      · cases h
        exact s.advances_takeRelay _ _
      · split at h
        · rename_i hn
          cases h
          split at hn
          · exact (advances_takeNotice hn).trans (advances_sendLocal _ _)
          · cases hn
        · obtain ⟨payload, -, rfl⟩ := Option.map_eq_some_iff.1 h
          exact s.advances_takeMirror payload

theorem advances_chooseUpstream (s : State) : s.Advances s.chooseUpstream := by
  have offered {u : State} (hu : s.Advances u) : s.Advances (s.takeLocal.getD u) := by
    cases ht : s.takeLocal with
    | none => exact hu
    | some t => exact advances_takeLocal ht
  unfold chooseUpstream
  split
  · exact offered (.refl s)
  · rename_i hf
    exact .ite (advances_takeUp hf) (offered (advances_takeUp hf))

/-! ### The commands -/

/-- What a command does at a state: it answers a next state, and is an operation of the part. -/
def Answers (s : State) (o : Next) : Prop := ∃ t, o = .next t ∧ s.Advances t

theorem Advances.answers (h : s.Advances t) : s.Answers (.next t) := ⟨t, rfl, h⟩

theorem answers_self (s : State) : s.Answers (.next s) := (Advances.refl s).answers

end State

open State

variable (s : State) (g : Segment)

theorem execResolutionCompletes_answers : s.Answers (exec .resolutionCompletes s) := by
  cases he : s.mgmt.engine with
  | committing tag r =>
    rw [exec_resolutionCompletes r he]
    exact (advances_completed he).answers
  | _ =>
    simp only [exec, execResolutionCompletes, he]
    exact s.answers_self

theorem execZeroingDeadlineReached_answers (n : Fin 128) : s.Answers (execZeroingDeadlineReached n s) := by
  unfold execZeroingDeadlineReached
  split
  · exact s.answers_self
  · exact ((s.advances_elapse _).trans
      ((advances_modifyLane _ n fun _ h => Lane.Within.inRange {} h).close _)).answers

theorem execReplenishDeadlineReached_answers (n : Fin 128) : s.Answers (execReplenishDeadlineReached n s) := by
  unfold execReplenishDeadlineReached
  split
  · exact s.answers_self
  · exact ((s.advances_elapse _).trans ((advances_modifyLane _ n fun l h =>
      (Lane.Within.trans (k := { l with replenishDeadline := none }) {} (Lane.within_judge _ _)).inRange h).close
        _)).answers

theorem execHoldDeadlineReached_answers : s.Answers (execHoldDeadlineReached s) := by
  unfold execHoldDeadlineReached
  split
  · exact s.answers_self
  · exact ((s.advances_elapse _).trans (advances_endHold _)).answers

theorem execNoticeSpacingElapsed_answers : s.Answers (execNoticeSpacingElapsed s) := by
  unfold execNoticeSpacingElapsed
  split
  · exact s.answers_self
  · exact (s.advances_elapse _).answers

theorem execBeaconPhaseToggle_answers (b : Fin 4) : s.Answers (execBeaconPhaseToggle b s) := by
  unfold execBeaconPhaseToggle
  split
  · rename_i high e _
    refine Advances.answers ((s.advances_elapse (Config.beaconPhase - e)).trans ?_)
    exact advances_of_notice _ (Nat.le_refl _) rfl
  all_goals exact s.answers_self

theorem execAkeyLevelChange_answers (low : Bool) : s.Answers (execAkeyLevelChange low s) := by
  unfold execAkeyLevelChange
  split
  · exact s.answers_self
  · refine Advances.answers ?_
    exact s.advances_of_notice (Nat.le_refl _) rfl

theorem execDebounceExpiry_answers : s.Answers (execDebounceExpiry s) := by
  unfold execDebounceExpiry
  split
  · exact s.answers_self
  · exact ((s.advances_elapse _).trans (advances_takeKey _)).answers

theorem execHoldTimerExpiry_answers : s.Answers (execHoldTimerExpiry s) := by
  unfold execHoldTimerExpiry
  split
  · rename_i e _
    refine Advances.answers (((s.advances_elapse (Config.holdTime - e)).trans ?_).trans (advances_toggleHold _))
    exact advances_of_notice _ (Nat.le_refl _) rfl
  all_goals exact s.answers_self

theorem execSweepTimerExpiry_answers : s.Answers (execSweepTimerExpiry g s) := by
  unfold execSweepTimerExpiry
  simp only
  split
  · split
    · exact s.answers_self
    · exact (advances_setSweep fun h => (h.sweep g).startSweep h.active).answers
  · exact ((s.advances_elapse _).trans
      (advances_setSweep fun h => (h.sweep g).expire h.active)).answers

theorem execShelfTransmissionEnd_answers : s.Answers (execShelfTransmissionEnd g s) := by
  unfold execShelfTransmissionEnd
  split
  · exact s.answers_self
  · rename_i v hv
    split
    · exact (advances_stage hv _).answers
    all_goals exact s.answers_self

theorem execReplyWindowExpiry_answers : s.Answers (execReplyWindowExpiry g s) := by
  unfold execReplyWindowExpiry
  split
  · exact s.answers_self
  · split
    · exact ((s.advances_elapse _).trans ((advances_endMissed _ g).close _)).answers
    all_goals exact s.answers_self

theorem execReadingReceived_answers (bytes : List Byte) : s.Answers (execReadingReceived g bytes s) := by
  unfold execReadingReceived
  split
  · exact s.answers_self
  · rename_i v hv
    split
    · exact ((advances_endPoll (fun h => h.visit hv) _).close s).answers
    · exact s.answers_self

theorem execRelayAnswerReceived_answers (bytes : List Byte) :
    s.Answers (execRelayAnswerReceived g bytes s) := by
  unfold execRelayAnswerReceived
  split
  · exact s.answers_self
  · split
    · exact s.answers_self
    · split
      · exact ((s.advances_endRelay g _ _ _).close s).answers
      · exact s.answers_self

theorem execShelfFrameDiscarded_answers : s.Answers (execShelfFrameDiscarded g s) := by
  have kept (v : Visit) (hv : v.InRange g) : v.sendNow.InRange g := by
    unfold Visit.sendNow
    split_ifs
    · exact hv
    · exact hv
  unfold execShelfFrameDiscarded
  simp only
  split
  · refine Advances.answers (advances_setSweep fun h => ?_)
    exact SweepEngine.InRange.mapVisit (e := { s.sweep g with stray := false })
      ⟨(h.sweep g).relays, (h.sweep g).visit⟩ kept
  · exact s.answers_self

theorem execShelfReceptionBegins_answers : s.Answers (execShelfReceptionBegins g s) := by
  have strayed : s.Answers (.next (s.setSweep g { s.sweep g with stray := true })) := by
    refine Advances.answers (advances_setSweep fun h => ?_)
    exact ⟨(h.sweep g).relays, (h.sweep g).visit⟩
  unfold execShelfReceptionBegins
  simp only
  split
  · exact strayed
  · rename_i v hv
    split
    · split
      · exact s.answers_self
      · exact (advances_stage hv _).answers
    · exact s.answers_self
    all_goals exact strayed

/-- Every command answers a next state, and is an operation of the part. -/
theorem exec_answers (c : Instr) : s.Answers (exec c s) := by
  cases c with
  | coldStart => exact s.advances_coldStart.answers
  | resolutionCompletes => exact execResolutionCompletes_answers s
  | buFrameReceived bytes =>
    refine Advances.answers ?_
    split
    · exact s.advances_routeDown _
    · exact s.advances_buFault
  | bdFrameReceived bytes =>
    refine Advances.answers ?_
    split
    · exact s.advances_forwardUp _
    · exact s.advances_bdFault
  | bdTransmit =>
    refine Advances.answers ?_
    split
    · exact .refl s
    · rename_i f rest hf
      refine .of_blocks (backbone := fun ⟨ha, hup, hdown, hrest⟩ => ?_)
      rw [hf] at hdown
      exact ⟨ha, hup, Nat.le_of_succ_le hdown, hrest⟩
  | upstreamChoice => exact s.advances_chooseUpstream.answers
  | zeroingDeadlineReached n => exact execZeroingDeadlineReached_answers s n
  | replenishDeadlineReached n => exact execReplenishDeadlineReached_answers s n
  | holdDeadlineReached => exact execHoldDeadlineReached_answers s
  | noticeSpacingElapsed => exact execNoticeSpacingElapsed_answers s
  | beaconPhaseToggle b => exact execBeaconPhaseToggle_answers s b
  | akeyLevelChange low => exact execAkeyLevelChange_answers s low
  | debounceExpiry => exact execDebounceExpiry_answers s
  | holdTimerExpiry => exact execHoldTimerExpiry_answers s
  | sweepTimerExpiry g => exact execSweepTimerExpiry_answers s g
  | shelfTransmissionEnd g => exact execShelfTransmissionEnd_answers s g
  | replyWindowExpiry g => exact execReplyWindowExpiry_answers s g
  | readingReceived g bytes => exact execReadingReceived_answers s g bytes
  | relayAnswerReceived g bytes => exact execRelayAnswerReceived_answers s g bytes
  | shelfFrameDiscarded g => exact execShelfFrameDiscarded_answers s g
  | shelfReceptionBegins g => exact execShelfReceptionBegins_answers s g
  | _ => exact (s.advances_submit _).answers

/-- Settles O3: every operation of the part leaves the queue of commands. -/
theorem everyCommandHasNextState : Obligations.EveryCommandHasNextState := by
  intro c s
  obtain ⟨t, ht, h⟩ := exec_answers s c
  exact ⟨t, ht, h.pending⟩

/-- A command leads from a ranged state to a ranged state. -/
theorem exec_ranged {c : Instr} {s t : State} (hs : s.Ranged) (ht : exec c s = .next t) : t.Ranged := by
  obtain ⟨u, hu, h⟩ := exec_answers s c
  cases hu.symm.trans ht
  exact h.ranged hs

/-- Settles O55: every operation of the part, and so every command and the passing of time, keeps the ranges. -/
theorem stepKeepsRanges : Obligations.StepKeepsRanges := by
  intro s t hs ht
  rw [inRange_iff] at hs ⊢
  unfold step at ht
  split at ht
  · unfold idle at ht
    split at ht
    · exact exec_ranged hs ht
    · cases ht
      exact (s.advances_elapse 1).ranged hs
  · rename_i c rest _
    have dequeued : Ranged { s with pending := rest } := { hs with }
    exact exec_ranged dequeued ht

end Sys2Proof.Machine
end
